-- ==== Sys2Proof/Word.lean ====
section
/-! DEFINITION. The words of the MillCodeMkII CORE: bit 0 is the least significant bit of every word
(R15), and no byte order exists (R53). -/

namespace Sys2Proof

/-- The argument of a command and the response to it (R56). -/
abbrev Word := BitVec 32

/-- The command word on the command port: opcode in [35:32], argument in [31:0] (R71). -/
abbrev CmdWord := BitVec 36

/-- The trace word that spells one step of the event-level machine: class in [39:36] (R79). -/
abbrev TraceWord := BitVec 40

/-- The six button lines, in the bit order of R82. -/
abbrev Buttons := BitVec 6

end Sys2Proof
end

