-- ==== Sys2Proof/Syntax.lean ====
section
/-! DEFINITION. The step alphabet (R75, R76, R79): the twelve host commands, the four reserved
opcodes and the four hardware events, one constructor for each row of the opcode table, and the
enumerations that steps and registers use (R17). -/

namespace Sys2Proof

/-- A stop reason (R17, R80). The encoding value 3 is never held, so no constructor stands for it. -/
inductive StopReason where
  | none
  | endstop
  | emergencyStop
deriving DecidableEq, Repr, Inhabited

/-- A travel direction (R17, R81). The value 3 is never held by a register. -/
inductive Dir where
  | none
  | cw
  | ccw
deriving DecidableEq, Repr, Inhabited

/-- The six logical buttons, in MC's order of listing (R11, R82). -/
inductive Button where
  | fastLeft
  | slowLeft
  | slowRight
  | fastRight
  | stop
  | rotaryPush
deriving DecidableEq, Repr

/-- One step of the machine. A field named `arg` or `ignored` holds the bits that R77 says are
ignored; they are kept so that no bit of a word is lost in decoding (log 12). -/
inductive Instr where
  /-- `0x0` NOP (R220). -/
  | nop (arg : Word)
  /-- `0x1` INIT_TIMER (R110). -/
  | initTimer (arg : Word)
  /-- `0x2` INIT_INPUTS (R180). -/
  | initInputs (arg : Word)
  /-- `0x3` RECONFIGURE, form CR: `arg` is the unsigned rate (R72, R73, R111). -/
  | reconfigure (rate : Word)
  /-- `0x4` STOP (R112). -/
  | stop (arg : Word)
  /-- `0x5` SET_DIR, form CD: `arg[31:2]` is ignored, `arg[1:0]` is the direction code (R72, R150). -/
  | setDir (ignored : BitVec 30) (d : BitVec 2)
  /-- `0x6` GET_STOP_REASON (R151). -/
  | getStopReason (arg : Word)
  /-- `0x7` CLEAR_STOP_REASON (R152). -/
  | clearStopReason (arg : Word)
  /-- `0x8` DRAIN_BUTTONS (R188). -/
  | drainButtons (arg : Word)
  /-- `0x9` DRAIN_ROTARY (R189). -/
  | drainRotary (arg : Word)
  /-- `0xA` GET_STATUS (R221). -/
  | getStatus (arg : Word)
  /-- `0xB` GET_TIMER_CFG (R113). -/
  | getTimerCfg (arg : Word)
  /-- `0xC`, reserved (R76, R222). -/
  | reservedC (arg : Word)
  /-- `0xD`, reserved (R76, R222). -/
  | reservedD (arg : Word)
  /-- `0xE`, reserved (R76, R222). -/
  | reservedE (arg : Word)
  /-- `0xF`, reserved (R76, R222). -/
  | reservedF (arg : Word)
  /-- The event TICK: `e` the end-of-travel sample, `s` the emergency-stop sample (R79, R142). -/
  | tick (e s : Bool)
  /-- The event BTN: `b` the six button samples (R79, R184). -/
  | btn (b : Buttons)
  /-- The event ROT: `q` the secondary line's level, `p` the primary line's (R79, R187). -/
  | rot (q p : Bool)
  /-- The event RST (R79, R223). -/
  | rst
deriving DecidableEq, Repr

end Sys2Proof
end

