-- ==== Sys2Proof/Config.lean ====
section
/-! DEFINITION. What an implementation fixes: the build-time constants of R10 and R11, the
well-formedness conditions of R12, and the opaque configuration of a machine after reset (log 3). -/

namespace Sys2Proof

/-- The maximum tick count, fixed by R11. -/
def maxCount : Nat := 255

/-- The numerator of the delay formula, fixed by R11 as MC writes it (90_conflicts.md C5). -/
def delayNum : Nat := 1000000000

/-- The sign applied to every rotary count (R10, `ROT_POL`): +1 or -1. -/
inductive Polarity where
  | plus
  | minus
deriving DecidableEq, Repr, Inhabited

/-- `ROT_POL` as an integer (R10). -/
def Polarity.sign : Polarity → Int
  | .plus => 1
  | .minus => -1

/-- The parameters of R10. `NDIV` is the length of `div`. The default values are those of the
example configuration CFG_TINY (R14); a machine after reset does not have them (see `Config.build`). -/
structure Params where
  /-- `F_CLK_HZ`. -/
  fClkHz : Nat := 1000000
  /-- `DIV[0..NDIV-1]`, fastest first (R100). -/
  div : List Nat := [1, 8, 64]
  /-- `SPU`, steps per unit distance. -/
  spu : Nat := 1000
  /-- `PW_US`, the pulse width in microseconds. -/
  pwUs : Nat := 2
  /-- `T`, the end-of-travel debounce threshold. -/
  threshold : Nat := 3
  /-- `BACKAWAY`. -/
  backaway : Bool := true
  /-- `ROT_POL`. -/
  rotPol : Polarity := .plus
  /-- `SETTLE_CYCLES` (cycle level only). -/
  settleCycles : Nat := 4
deriving DecidableEq, Repr

namespace Params

/-- `lo ≤ n ≤ hi`, the shape of every range of R10. -/
def inRange (lo hi n : Nat) : Bool := decide (lo ≤ n) && decide (n ≤ hi)

/-- R12 (a): every parameter is in the range of R10. -/
def rangesOk (c : Params) : Bool :=
  inRange 1 4294967295 c.fClkHz && inRange 1 256 c.div.length && c.div.all (inRange 1 65535) &&
  inRange 1 4294967295 c.spu && inRange 1 65535 c.pwUs && inRange 1 65535 c.threshold &&
  inRange 1 4294967295 c.settleCycles

/-- R12 (b): each divisor is below the next. -/
def strictlyIncreasing : List Nat → Bool
  | a :: b :: rest => decide (a < b) && strictlyIncreasing (b :: rest)
  | _ => true

/-- R12 (c): each divisor is at most 255 times the one before it. -/
def contiguous : List Nat → Bool
  | a :: b :: rest => decide (b ≤ maxCount * a) && contiguous (b :: rest)
  | _ => true

/-- `PW_CYCLES = ceil(PW_US * F_CLK_HZ / 1000000)`, the pulse width in cycles (R12 (d), R148). -/
def pwCycles (c : Params) : Nat :=
  let cycleMicros := c.pwUs * c.fClkHz
  cycleMicros / 1000000 + if cycleMicros % 1000000 = 0 then 0 else 1

/-- A configuration is well formed (R12). -/
def wf (c : Params) : Bool :=
  c.rangesOk && strictlyIncreasing c.div && contiguous c.div && decide (1 ≤ c.pwCycles)

/-- `NDIV`. -/
def ndiv (c : Params) : Nat := c.div.length

/-- `DIV[i]`. For an index outside the table, which no run reaches, the factor reads 1 (log 8). -/
def divisor (c : Params) (i : Nat) : Nat := c.div.getD i 1

/-- `tick_period_us[i]`, the count period of option i, an exact rational (R13, R101). -/
def tickPeriodUs (c : Params) (i : Nat) : ℚ := (c.divisor i * 1000000 : ℚ) / c.fClkHz

end Params

/-- A well-formed configuration: the parameters with the proof of R12, so that an ill-formed one
cannot be given to the machine (R12: "a model refuses any other"; U4). -/
structure Config extends Params where
  wf : toParams.wf = true := by decide
deriving DecidableEq, Repr, Inhabited

/-- The configuration of the machine after reset: the parameters are OPEN (R10; 92_eei_decisions.md
section 2), so it is an arbitrary well-formed configuration of which nothing more can be proved (log 3). -/
opaque Config.build : Config

/-- CFG_TINY of R14, an example for tests. -/
def Config.tiny : Config := {}

/-- CFG_REF of R14, an example for tests. -/
def Config.ref : Config :=
  { fClkHz := 16000000, div := [1, 8, 32, 64, 128, 256, 1024], spu := 400, pwUs := 5,
    threshold := 100, settleCycles := 16000 }

end Sys2Proof
end

