-- ==== Sys2Proof/WellFormed.lean ====
section
/-! DEFINITION. The checks on what comes from outside: a configuration (R12, in Config.lean), a trace
word (R79) and a step. Every term of `Instr` has operands of the widths the encoding gives them, by
its type, so the check on a step asks nothing more. -/

namespace Sys2Proof

/-- Ways in which a 40-bit word is no trace word of R79 (U13). -/
inductive DecodeError where
  /-- The class `tw[39:36]` is 0x4 to 0xE, which is not a step. -/
  | classNotAStep
  /-- A bit of an event's payload that must be 0 is not. -/
  | unusedBitsNotZero
deriving DecidableEq, Repr

/-- A trace word spells a step (R79): it has one of the five shapes of the opcode table, each a mask
and a match (any host command, reserved ones included; TICK; BTN; ROT; RST). -/
def TraceWord.wf (tw : TraceWord) : Bool :=
  tw &&& 0xF000000000 == 0x0000000000 || tw &&& 0xFFFFFFFFFC == 0x1000000000 ||
  tw &&& 0xFFFFFFFFC0 == 0x2000000000 || tw &&& 0xFFFFFFFFFC == 0x3000000000 ||
  tw &&& 0xFFFFFFFFFF == 0xF000000000

/-- A step is well formed. -/
def Instr.wf : Instr → Bool
  | .nop _ | .initTimer _ | .initInputs _ | .reconfigure _ | .stop _ | .setDir _ _
  | .getStopReason _ | .clearStopReason _ | .drainButtons _ | .drainRotary _ | .getStatus _
  | .getTimerCfg _ | .reservedC _ | .reservedD _ | .reservedE _ | .reservedF _
  | .tick _ _ | .btn _ | .rot _ _ | .rst => true

/-- A configuration's raw parameters are accepted (R12). -/
def Config.check (p : Params) : Option Config :=
  if h : p.wf = true then some { toParams := p, wf := h } else none

end Sys2Proof
end

