-- ==== Sys2Proof/Decode.lean ====
section
/-! DEFINITION. Decoding command words (R71, R72, R75, R76) and trace words (R79), and the encoder. -/

namespace Sys2Proof

/-- The command a 36-bit command word stands for. A decoder needs `cmd_word[35:32]` and nothing else
(R75); every word is a command, reserved ones included (R76). -/
def decodeCommand (w : CmdWord) : Instr :=
  let arg : Word := w.extractLsb' 0 32
  match (w.extractLsb' 32 4).toNat with
  | 0x0 => .nop arg
  | 0x1 => .initTimer arg
  | 0x2 => .initInputs arg
  | 0x3 => .reconfigure arg
  | 0x4 => .stop arg
  | 0x5 => .setDir (w.extractLsb' 2 30) (w.extractLsb' 0 2)
  | 0x6 => .getStopReason arg
  | 0x7 => .clearStopReason arg
  | 0x8 => .drainButtons arg
  | 0x9 => .drainRotary arg
  | 0xA => .getStatus arg
  | 0xB => .getTimerCfg arg
  | 0xC => .reservedC arg
  | 0xD => .reservedD arg
  | 0xE => .reservedE arg
  | _ => .reservedF arg

/-- The class field of a trace word (R79). -/
def traceClass (tw : TraceWord) : BitVec 4 := tw.extractLsb' 36 4

/-- The step a trace word spells (R79), or the name of what is wrong with it (U13, log 7). -/
def decode (tw : TraceWord) : Except DecodeError Instr :=
  match (traceClass tw).toNat with
  | 0x0 => .ok (decodeCommand (tw.extractLsb' 0 36))
  | 0x1 => if tw.extractLsb' 2 34 = 0 then .ok (.tick (tw.getLsbD 0) (tw.getLsbD 1)) else .error .unusedBitsNotZero
  | 0x2 => if tw.extractLsb' 6 30 = 0 then .ok (.btn (tw.extractLsb' 0 6)) else .error .unusedBitsNotZero
  | 0x3 => if tw.extractLsb' 2 34 = 0 then .ok (.rot (tw.getLsbD 1) (tw.getLsbD 0)) else .error .unusedBitsNotZero
  | 0xF => if tw.extractLsb' 0 36 = 0 then .ok .rst else .error .unusedBitsNotZero
  | _ => .error .classNotAStep

/-- The instruction in a table row's bits (numbered as spec/opcode_table.json numbers them): the
trace word is one 40-bit word, whose bit 0 is the row's bit 0. Bits at `nbits` and above are 0. -/
def decodeTableWord (nbits w : Nat) : Option Instr :=
  if w % 2 ^ nbits < 2 ^ 40 then (decode (BitVec.ofNat 40 (w % 2 ^ nbits))).toOption else none

/-- The trace word of a host command: class 0, the opcode in [35:32], the argument in [31:0] (R71, R79). -/
def encodeCommand (op : BitVec 4) (arg : Word) : TraceWord :=
  op.setWidth 40 <<< 32 ||| arg.setWidth 40

/-- The argument of form CD: ignored bits in [31:2], the direction code in [1:0] (R72). -/
def directionArg (ignored : BitVec 30) (d : BitVec 2) : Word :=
  ignored.setWidth 32 <<< 2 ||| d.setWidth 32

/-- The trace word of an event: its class in [39:36] and a 36-bit payload (R79). -/
def encodeEvent (cls : BitVec 4) (payload : BitVec 36) : TraceWord :=
  cls.setWidth 40 <<< 36 ||| payload.setWidth 40

/-- The payload of an event with two samples: `hi` in bit 1, `lo` in bit 0 (R79). -/
def twoSamples (hi lo : Bool) : BitVec 36 :=
  (BitVec.ofBool hi).setWidth 36 <<< 1 ||| (BitVec.ofBool lo).setWidth 36

/-- The trace word of a step (R71, R75, R79). -/
def encode : Instr → TraceWord
  | .nop arg => encodeCommand 0x0 arg
  | .initTimer arg => encodeCommand 0x1 arg
  | .initInputs arg => encodeCommand 0x2 arg
  | .reconfigure rate => encodeCommand 0x3 rate
  | .stop arg => encodeCommand 0x4 arg
  | .setDir ignored d => encodeCommand 0x5 (directionArg ignored d)
  | .getStopReason arg => encodeCommand 0x6 arg
  | .clearStopReason arg => encodeCommand 0x7 arg
  | .drainButtons arg => encodeCommand 0x8 arg
  | .drainRotary arg => encodeCommand 0x9 arg
  | .getStatus arg => encodeCommand 0xA arg
  | .getTimerCfg arg => encodeCommand 0xB arg
  | .reservedC arg => encodeCommand 0xC arg
  | .reservedD arg => encodeCommand 0xD arg
  | .reservedE arg => encodeCommand 0xE arg
  | .reservedF arg => encodeCommand 0xF arg
  | .tick e s => encodeEvent 0x1 (twoSamples s e)
  | .btn b => encodeEvent 0x2 (b.setWidth 36)
  | .rot q p => encodeEvent 0x3 (twoSamples q p)
  | .rst => encodeEvent 0xF 0#36

end Sys2Proof
end

