-- ==== Sys2Proof/Machine/State.lean ====
section
/-! DEFINITION. The machine's state as plain data: the ten architected registers (R22), the hidden
registers of the cycle level (R33), what the latest step put out (R35), the configuration (R10, R34)
and the environment's schedule (R9, R59, R79); the reasons a step can stop; reset (R42). -/

namespace Sys2Proof.Machine

/-- The input ports during one clock cycle (R35). `clk` is not a field: one `Ports` is one period of
it. Sensors carry logical levels, 1 asserted; the two quadrature lines carry 1 for high. -/
structure Ports where
  /-- Synchronous reset, active high. -/
  rst : Bool := false
  /-- A command is presented this cycle. -/
  cmdValid : Bool := false
  /-- The command word; ignored when `cmdValid` is false (R78). -/
  cmdWord : CmdWord := 0
  /-- End-of-travel sensor. -/
  endstop : Bool := false
  /-- Emergency-stop input. -/
  estop : Bool := false
  /-- Buttons, bit i is button i of R82. -/
  btn : Buttons := 0
  /-- Primary quadrature line. -/
  rotPri : Bool := false
  /-- Secondary quadrature line. -/
  rotSec : Bool := false
deriving DecidableEq, Repr

/-- What the environment chooses to happen next (log 2, log 4). -/
inductive Stimulus where
  /-- One event-level step, spelled as a trace word (R79). -/
  | trace (tw : TraceWord)
  /-- One clock cycle with these port values (R18, R35). -/
  | cycle (p : Ports)
deriving DecidableEq, Repr

/-- What a step or cycle puts out (R16, R35, R70): the command port's response, and whether it emits
PULSE. Nothing of it is latched in the hardware (R222); State keeps the latest one (log 5). -/
structure Outputs where
  rspData : Word := 0
  rspErr : Bool := false
  pulse : Bool := false
deriving DecidableEq, Repr

/-- Why the machine would stop with a fault: never. The block "never traps, never transfers control,
never halts itself beyond stopping its timer, and has no unrecoverable state" (R230), so this closed
inductive has no constructor, and no meaning can raise a fault (log 17). -/
inductive Fault where
deriving DecidableEq, Repr

/-- Why the model rejects an input, without the machine taking a step. -/
inductive Refusal where
  /-- The instruction has no meaning yet. Raised by no arm of `exec` in this model. Safe: no step is taken. -/
  | notModelled (mnemonic : String)
  /-- The schedule is empty: the environment has chosen no further step. Raised by `step`. Safe. -/
  | noInput
  /-- The trace word spells no step (R79, U13: refuse). Raised by `step`. Safe. -/
  | notAStep (why : DecodeError)
  /-- A TICK in a state with `RUN = 0`: "there is no TICK step" (R141). Raised by `execTick`. Safe (log 6). -/
  | tickNotEnabled
  /-- A BTN or ROT in a state with `CAP_EN = 0`: no such step exists (R184, R187). Raised by
  `execBtn` and `execRot`. Safe (log 6). -/
  | captureNotEnabled
deriving DecidableEq, Repr

/-- The whole state. -/
@[ext]
structure State where
  /-- `RUN`: the periodic timer's clock source is enabled (R23). -/
  run : Bool
  /-- `DIV_SEL`: index of the divisor option in use (R24). -/
  divSel : BitVec 8
  /-- `TICK_COUNT`: the compare value (R25). -/
  tickCount : BitVec 8
  /-- `STOP_REASON`: cause of the most recent automatic stop (R26). -/
  stopReason : StopReason
  /-- `STOP_DIR`: the latched travel direction (R27). -/
  stopDir : Dir
  /-- `DEB_CNT`: the end-of-travel debounce counter (R28). -/
  debCnt : BitVec 16
  /-- `DESIRED_DIR`: the direction the host wants (R29). -/
  desiredDir : Dir
  /-- `CAP_EN`: the two capture sources are enabled (R30). -/
  capEn : Bool
  /-- `BTN_ACC`: buttons pressed since last drained (R31). -/
  btnAcc : Buttons
  /-- `ROT_ACC`: net rotary count since last drained, two's complement (R32). -/
  rotAcc : Word
  /-- `PSC`: prescale counter (R33, R140). -/
  psc : BitVec 16
  /-- `TCNT`: timer count (R33, R140). -/
  tcnt : BitVec 8
  /-- `PW_CTR`: pulse hold counter (R33, R148). -/
  pwCtr : BitVec 32
  /-- `END_M`, `END_S`: synchroniser of `endstop` (R33, R154). -/
  endM : Bool
  endS : Bool
  /-- `EST_M`, `EST_S`: synchroniser of `estop` (R33, R154). -/
  estM : Bool
  estS : Bool
  /-- `BTN_M`, `BTN_S`, `BTN_P`: synchroniser of `btn` and the previous value (R33, R181). -/
  btnM : Buttons
  btnS : Buttons
  btnP : Buttons
  /-- `SEC_M`, `SEC_S`, `SEC_P`: synchroniser of `rot_sec` and the previous value (R33, R181). -/
  secM : Bool
  secS : Bool
  secP : Bool
  /-- `PRI_M`, `PRI_S`: synchroniser of `rot_pri` (R33, R181). -/
  priM : Bool
  priS : Bool
  /-- `SETTLE_CTR`: settle delay counter, 0 idle (R33, R183). -/
  settleCtr : BitVec 32
  /-- `BTN_PEND`: an edge arrived while the delay ran (R33, R183). -/
  btnPend : Bool
  /-- What the latest step or cycle put out (the model's own field, log 5). -/
  out : Outputs
  /-- The build-time configuration (the model's own field, log 3); no step changes it (R63). -/
  cfg : Config
  /-- The environment's schedule, next entry first (the model's own field, log 2). -/
  inputs : List Stimulus
deriving DecidableEq, Repr

/-- The state every register of which holds its reset value (R42), for a configuration and a schedule. -/
def State.resetWith (cfg : Config) (inputs : List Stimulus) : State where
  run := false
  divSel := 0
  tickCount := 0
  stopReason := .none
  stopDir := .none
  debCnt := 0
  desiredDir := .none
  capEn := false
  btnAcc := 0
  rotAcc := 0
  psc := 0
  tcnt := 0
  pwCtr := 0
  endM := false
  endS := false
  estM := false
  estS := false
  btnM := 0
  btnS := 0
  btnP := 0
  secM := false
  secS := false
  secP := false
  priM := false
  priS := false
  settleCtr := 0
  btnPend := false
  out := {}
  cfg := cfg
  inputs := inputs

/-- The machine right after reset (R42, R260): every register zero, the OPEN configuration, and
nothing scheduled. -/
def State.reset : State := State.resetWith Config.build []

end Sys2Proof.Machine
end

