-- ==== Sys2Proof/Machine/Operands.lean ====
section
/-! DEFINITION. Operand forms and the codes of the enumerations (R72, R73, R80, R81, R82). -/

namespace Sys2Proof.Machine

/-- The bit encoding of a stop reason (R80). -/
def stopReasonCode : StopReason → BitVec 2
  | .none => 0
  | .endstop => 1
  | .emergencyStop => 2

/-- The bit encoding of a direction (R81). -/
def dirCode : Dir → BitVec 2
  | .none => 0
  | .cw => 1
  | .ccw => 2

/-- The direction a code names; 3 is reserved (R76, R81). -/
def dirOfCode (d : BitVec 2) : Option Dir :=
  match d.toNat with
  | 0 => some .none
  | 1 => some .cw
  | 2 => some .ccw
  | _ => Option.none

/-- The bit of a button in `BTN_ACC`, the BTN payload and the drain's response (R82). -/
def buttonBit : Button → Nat
  | .fastLeft => 0
  | .slowLeft => 1
  | .slowRight => 2
  | .fastRight => 3
  | .stop => 4
  | .rotaryPush => 5

/-- Form CR: the rate is the argument read as an unsigned integer (R72, R73). -/
def rateOf (arg : Word) : Nat := arg.toNat

end Sys2Proof.Machine
end

