-- ==== Sys2Proof/Machine/Flags.lean ====
section
/-! DEFINITION. The status the block keeps in place of condition codes (R36) and the formats in which
a host reads it (R74). -/

namespace Sys2Proof.Machine

/-- A field of a response, its bit 0 at bit `k`. -/
def fieldAt (k : Nat) {n : Nat} (v : BitVec n) : Word := v.setWidth 32 <<< k

/-- The response of GET_STATUS: `DEB_CNT` in [31:16], zeros, `CAP_EN` in 7, `DESIRED_DIR` in [6:5],
`STOP_DIR` in [4:3], `STOP_REASON` in [2:1], `RUN` in 0 (R74, R221). -/
def statusWord (s : State) : Word :=
  fieldAt 16 s.debCnt ||| fieldAt 7 (BitVec.ofBool s.capEn) ||| fieldAt 5 (dirCode s.desiredDir) |||
    fieldAt 3 (dirCode s.stopDir) ||| fieldAt 1 (stopReasonCode s.stopReason) |||
    fieldAt 0 (BitVec.ofBool s.run)

/-- The response of GET_TIMER_CFG: `RUN` in 16, `DIV_SEL` in [15:8], `TICK_COUNT` in [7:0] (R74, R113). -/
def timerCfgWord (s : State) : Word :=
  fieldAt 16 (BitVec.ofBool s.run) ||| fieldAt 8 s.divSel ||| fieldAt 0 s.tickCount

/-- The response of GET_STOP_REASON (R74, R151). -/
def stopReasonWord (s : State) : Word := (stopReasonCode s.stopReason).setWidth 32

/-- The response of RECONFIGURE that reports success: bit 0, `OK` (R74). -/
def rspOk : Word := 1
/-- The response of RECONFIGURE on a rate too fast: bit 1, `TOO_FAST` (R74, R231 row 1a). -/
def rspTooFast : Word := 2
/-- The response of RECONFIGURE on a rate too slow: bit 2, `TOO_SLOW` (R74, R231 row 1b). -/
def rspTooSlow : Word := 4

/-- The outputs of a step that answers a command with `data` and no error (R74). -/
def response (data : Word) : Outputs := { rspData := data }

/-- The outputs of a reserved command or reserved direction code: 0 with `rsp_err = 1` (R76). -/
def errorResponse : Outputs := { rspErr := true }

/-- The outputs of a step that answers no command and emits no pulse: 0 on both response ports (R78). -/
def silent : Outputs := {}

/-- The outputs of a TICK that emits PULSE (R142 step 5). -/
def pulseOutput : Outputs := { pulse := true }

/-- The output port `step`: high while the pulse hold counter runs (R33, R148). -/
def stepPort (s : State) : Bool := decide (s.pwCtr ≠ 0)

/-- The state of the stop-condition state machine (R21, R147). -/
inductive StopState where
  | running
  | stopped (r : StopReason)
deriving DecidableEq, Repr

/-- The pair (`RUN`, `STOP_REASON`) read as a state of the stop-condition state machine (R147). With
`RUN = 1` the reason is `NONE` in every state a run reaches (R43 (d)). -/
def stopState (s : State) : StopState := if s.run then .running else .stopped s.stopReason

end Sys2Proof.Machine
end

