-- ==== Sys2Proof/Machine/RateDecoder.lean ====
section
/-! DEFINITION. The rate decoder (R102 to R109, R114): exact over the integers, one floor. -/

namespace Sys2Proof.Machine

/-- `R = rate * SPU` (R103). -/
def rateSteps (c : Config) (rate : Nat) : Nat := rate * c.spu

/-- `A = (DELAY_NUM - PW_US * R) * F_CLK_HZ`, of either sign (R103). -/
def delayScaled (c : Config) (rate : Nat) : Int :=
  ((delayNum : Int) - (c.pwUs * rateSteps c rate : Nat)) * (c.fClkHz : Int)

/-- `B = divisor * 1000000 * R` for a divisor of the table (R103). -/
def countScaled (c : Config) (rate divisor : Nat) : Int :=
  ((divisor * 1000000 * rateSteps c rate : Nat) : Int)

/-- Option i can reach the delay: `255 * B(i) >= A` (R105). -/
def reaches (c : Config) (rate divisor : Nat) : Bool :=
  decide (delayScaled c rate ≤ (maxCount : Int) * countScaled c rate divisor)

/-- The linear scan of R105, fastest to slowest: the index and divisor of the first option that
reaches, the head of the list having index `i`. -/
def scanOptions (c : Config) (rate : Nat) : List Nat → Nat → Option (Nat × Nat)
  | [], _ => none
  | d :: rest, i => if reaches c rate d then some (i, d) else scanOptions c rate rest (i + 1)

/-- What the rate decoder answers for a non-zero rate (R104 to R107). -/
inductive RateResult where
  | tooFast
  | tooSlow
  | program (index count : Nat)
deriving DecidableEq, Repr

/-- The rate decoder for `rate > 0` (R104 to R107, R111): too fast first, then the first option that
reaches, with the truncated quotient `floor(A / B(i))`. -/
def decodeRate (c : Config) (rate : Nat) : RateResult :=
  if delayScaled c rate < countScaled c rate (c.divisor 0) then .tooFast
  else match scanOptions c rate c.div 0 with
    | some (i, d) => .program i (delayScaled c rate / countScaled c rate d).toNat
    | none => .tooSlow

/-- `delay_us`, the requested delay in microseconds, an exact rational (R102). -/
def delayUs (c : Config) (rate : Nat) : ℚ := (delayNum : ℚ) / (rate * c.spu : ℚ) - c.pwUs

end Sys2Proof.Machine
end

