-- ==== Sys2Proof/Machine/Ops.lean ====
section
/-! DEFINITION. The named operations over registers that the meanings share. The block has no memory
(R50), so there is no memory operation. What stands in for taking an exception is the automatic
safety stop (`takeStop`, R239), and for the return from it the restart (`startTimer`, R240). -/

namespace Sys2Proof.Machine

/-- The state with what the step puts out. -/
def drive (o : Outputs) (s : State) : State := { s with out := o }

/-- Disable the timer's clock source (R23, R112): `RUN <- 0`. -/
def stopTimer (s : State) : State := { s with run := false }

/-- `STOP_REASON <- NONE` (R26, R152). -/
def clearReason (s : State) : State := { s with stopReason := .none }

/-- Take an automatic safety stop (R239): `RUN <- 0`, `STOP_REASON <- cause`, no pulse. Everything
else is kept; what an ENDSTOP stop also records (the latch, the count) is written before, by R142. -/
def takeStop (cause : StopReason) (s : State) : State :=
  { s with run := false, stopReason := cause, out := silent }

/-- Return from a stop (R240), or replace a running configuration (R111, R115): the pair, the
counters, `RUN` and `STOP_REASON` change in one step. -/
def startTimer (index count : Nat) (s : State) : State :=
  { s with divSel := BitVec.ofNat 8 index, tickCount := BitVec.ofNat 8 count, psc := 0, tcnt := 0,
           run := true, stopReason := .none }

/-- Emit one step pulse (R142 step 5, R148): the hold counter is loaded with `PW_CYCLES`. -/
def emitPulse (s : State) : State :=
  { s with pwCtr := BitVec.ofNat 32 s.cfg.pwCycles, out := pulseOutput }

/-- The timing engine back to its reset state, but for `DESIRED_DIR` and `PW_CTR` (R110, D16). -/
def initTimingEngine (s : State) : State :=
  { s with run := false, stopReason := .none, divSel := 0, tickCount := 0, stopDir := .none,
           debCnt := 0, psc := 0, tcnt := 0 }

/-- RECONFIGURE's effect on the registers, by the decoder's answer (R111). -/
def applyRate (r : RateResult) (s : State) : State :=
  match r with
  | .tooFast => drive (response rspTooFast) (stopTimer s)
  | .tooSlow => drive (response rspTooSlow) (stopTimer s)
  | .program i n => drive (response rspOk) (startTimer i n s)

/-- The whole effect of RECONFIGURE (R111). -/
def reconfigureTo (rate : Nat) (s : State) : State :=
  if rate = 0 then drive (response rspOk) (clearReason (stopTimer s))
  else applyRate (decodeRate s.cfg rate) s

/-- Steps 2 and 3 of R142: write the latch and the debounce count. -/
def writeDebounce (latch : Dir) (count : Nat) (s : State) : State :=
  { s with stopDir := latch, debCnt := BitVec.ofNat 16 count }

/-- Step 1 of R142: the debounce count with this tick's sample. -/
def debounceCount (e : Bool) (s : State) : Nat := if e then s.debCnt.toNat + 1 else 0

/-- Step 2 of R142: the direction latched at a threshold tick (R145). -/
def latchedDir (s : State) : Dir := if s.stopDir = .none then s.desiredDir else s.stopDir

/-- Step 2 of R142: the threshold tick stops, because back-away is not permitted or the desired
direction is the latched one. -/
def stillObstructed (s : State) : Bool := !s.cfg.backaway || decide (s.desiredDir = latchedDir s)

/-- Steps 4 and 5 of R142: the emergency stop, else the pulse. -/
def estopOrPulse (estop : Bool) (s : State) : State :=
  if estop then takeStop .emergencyStop s else emitPulse s

/-- The per-tick decision, steps 1 to 5 in order (R142, R143). The count written in step 3 fits its
16 bits in every state a run reaches (log 9). -/
def tickDecision (e estop : Bool) (s : State) : State :=
  if debounceCount e s = s.cfg.threshold then
    if stillObstructed s then takeStop .endstop (writeDebounce (latchedDir s) 0 s)
    else estopOrPulse estop (writeDebounce (latchedDir s) 0 s)
  else estopOrPulse estop (writeDebounce .none (debounceCount e s) s)

/-- `DESIRED_DIR <- d` (R150). -/
def setDesired (d : Dir) (s : State) : State := { s with desiredDir := d }

/-- `CAP_EN <- 1` (R180). -/
def enableCapture (s : State) : State := { s with capEn := true }

/-- `BTN_ACC <- 0` (R188). -/
def clearButtons (s : State) : State := { s with btnAcc := 0 }

/-- `ROT_ACC <- 0` (R189). -/
def clearRotary (s : State) : State := { s with rotAcc := 0 }

/-- BTN's effect: bitwise OR (R184). -/
def accumulateButtons (b : Buttons) (s : State) : State := { s with btnAcc := s.btnAcc ||| b }

/-- `ROT_POL` as a 32-bit word (R10). -/
def polarityWord : Polarity → Word
  | .plus => 1
  | .minus => -1

/-- What ROT adds to `ROT_ACC`: nothing unless the secondary line reads low; then `+ROT_POL` with the
primary high, `-ROT_POL` with it low (R187). -/
def rotaryDelta (pol : Polarity) (q p : Bool) : Word :=
  if q then 0 else if p then polarityWord pol else -polarityWord pol

/-- ROT's effect: one count modulo 2^32 (R187, R192). -/
def accumulateRotary (q p : Bool) (s : State) : State :=
  { s with rotAcc := s.rotAcc + rotaryDelta s.cfg.rotPol q p }

/-- Every register to its reset value (R42, R223); the configuration is constant (R63) and the
environment's schedule is not the machine's. -/
def resetRegisters (s : State) : State := State.resetWith s.cfg s.inputs

end Sys2Proof.Machine
end

