-- ==== Sys2Proof/Machine/Capture.lean ====
section
/-! DEFINITION. Input capture: INIT_INPUTS, the events BTN and ROT, and the two drains
(42_input_capture.md). -/

namespace Sys2Proof.Machine

/-- INIT_INPUTS (R180): `CAP_EN <- 1`. -/
def execInitInputs (_arg : Word) (s : State) : Host.Outcome State Fault Refusal :=
  .next (drive (response 0) (enableCapture s))

/-- BTN (R184): a step only in a state with `CAP_EN = 1`. -/
def execBtn (b : Buttons) (s : State) : Host.Outcome State Fault Refusal :=
  if s.capEn then .next (drive silent (accumulateButtons b s)) else .refused .captureNotEnabled

/-- ROT (R187): a step only in a state with `CAP_EN = 1`. -/
def execRot (q p : Bool) (s : State) : Host.Outcome State Fault Refusal :=
  if s.capEn then .next (drive silent (accumulateRotary q p s)) else .refused .captureNotEnabled

/-- DRAIN_BUTTONS (R188): an atomic read-and-reset (R62). -/
def execDrainButtons (_arg : Word) (s : State) : Host.Outcome State Fault Refusal :=
  .next (drive (response (s.btnAcc.setWidth 32)) (clearButtons s))

/-- DRAIN_ROTARY (R189): an atomic read-and-reset (R62). -/
def execDrainRotary (_arg : Word) (s : State) : Host.Outcome State Fault Refusal :=
  .next (drive (response s.rotAcc) (clearRotary s))

end Sys2Proof.Machine
end

