-- ==== Sys2Proof/Machine/Misc.lean ====
section
/-! DEFINITION. NOP, GET_STATUS, the reserved commands and the event RST (43_status_and_misc.md). -/

namespace Sys2Proof.Machine

/-- NOP (R220): responds 0; no state is read or written. -/
def execNop (_arg : Word) (s : State) : Host.Outcome State Fault Refusal :=
  .next (drive (response 0) s)

/-- GET_STATUS (R221): no state is written. -/
def execGetStatus (_arg : Word) (s : State) : Host.Outcome State Fault Refusal :=
  .next (drive (response (statusWord s)) s)

/-- The reserved opcode `0xC` (R222): `rsp_data = 0`, `rsp_err = 1`, no state is written. -/
def execReservedC (_arg : Word) (s : State) : Host.Outcome State Fault Refusal :=
  .next (drive errorResponse s)

/-- The reserved opcode `0xD` (R222). -/
def execReservedD (_arg : Word) (s : State) : Host.Outcome State Fault Refusal :=
  .next (drive errorResponse s)

/-- The reserved opcode `0xE` (R222). -/
def execReservedE (_arg : Word) (s : State) : Host.Outcome State Fault Refusal :=
  .next (drive errorResponse s)

/-- The reserved opcode `0xF` (R222). -/
def execReservedF (_arg : Word) (s : State) : Host.Outcome State Fault Refusal :=
  .next (drive errorResponse s)

/-- RST (R223): every register to its reset value, the hidden ones too; a pulse in progress is cut. -/
def execRst (s : State) : Host.Outcome State Fault Refusal :=
  .next (resetRegisters s)

end Sys2Proof.Machine
end

