-- ==== Sys2Proof/Machine/Tick.lean ====
section
/-! DEFINITION. The event TICK and the commands SET_DIR, GET_STOP_REASON, CLEAR_STOP_REASON
(41_tick_engine.md). -/

namespace Sys2Proof.Machine

/-- TICK (R142). With `RUN = 0` there is no TICK step (R141). -/
def execTick (e estop : Bool) (s : State) : Host.Outcome State Fault Refusal :=
  if s.run then .next (tickDecision e estop s) else .refused .tickNotEnabled

/-- SET_DIR (R150): `DESIRED_DIR <- d`; the reserved code 3 changes nothing and sets `rsp_err`. -/
def execSetDir (_ignored : BitVec 30) (d : BitVec 2) (s : State) : Host.Outcome State Fault Refusal :=
  .next (match dirOfCode d with
    | some dir => drive (response 0) (setDesired dir s)
    | none => drive errorResponse s)

/-- GET_STOP_REASON (R151): the read does not clear the reason. -/
def execGetStopReason (_arg : Word) (s : State) : Host.Outcome State Fault Refusal :=
  .next (drive (response (stopReasonWord s)) s)

/-- CLEAR_STOP_REASON (R152): `STOP_REASON <- NONE` and nothing else. -/
def execClearStopReason (_arg : Word) (s : State) : Host.Outcome State Fault Refusal :=
  .next (drive (response 0) (clearReason s))

end Sys2Proof.Machine
end

