-- ==== Sys2Proof/Machine/Timer.lean ====
section
/-! DEFINITION. The timer commands INIT_TIMER, RECONFIGURE, STOP and GET_TIMER_CFG
(40_rate_decoder_and_timer_commands.md). -/

namespace Sys2Proof.Machine

/-- INIT_TIMER (R110). -/
def execInitTimer (_arg : Word) (s : State) : Host.Outcome State Fault Refusal :=
  .next (drive (response 0) (initTimingEngine s))

/-- RECONFIGURE (R111): always completes, with `OK`, `TOO_FAST` or `TOO_SLOW`. -/
def execReconfigure (rate : Word) (s : State) : Host.Outcome State Fault Refusal :=
  .next (reconfigureTo (rateOf rate) s)

/-- STOP (R112): `RUN <- 0` and nothing else. -/
def execStop (_arg : Word) (s : State) : Host.Outcome State Fault Refusal :=
  .next (drive (response 0) (stopTimer s))

/-- GET_TIMER_CFG (R113): no state is written. -/
def execGetTimerCfg (_arg : Word) (s : State) : Host.Outcome State Fault Refusal :=
  .next (drive (response (timerCfgWord s)) s)

end Sys2Proof.Machine
end

