-- ==== Sys2Proof/Machine/Dispatch.lean ====
section
/-! DEFINITION. One arm for each step: the meaning of the instruction. -/

namespace Sys2Proof.Machine

def exec (i : Instr) (s : State) : Host.Outcome State Fault Refusal :=
  match i with
  | .nop arg => Sys2Proof.Machine.execNop arg s
  | .initTimer arg => Sys2Proof.Machine.execInitTimer arg s
  | .initInputs arg => Sys2Proof.Machine.execInitInputs arg s
  | .reconfigure rate => Sys2Proof.Machine.execReconfigure rate s
  | .stop arg => Sys2Proof.Machine.execStop arg s
  | .setDir ignored d => Sys2Proof.Machine.execSetDir ignored d s
  | .getStopReason arg => Sys2Proof.Machine.execGetStopReason arg s
  | .clearStopReason arg => Sys2Proof.Machine.execClearStopReason arg s
  | .drainButtons arg => Sys2Proof.Machine.execDrainButtons arg s
  | .drainRotary arg => Sys2Proof.Machine.execDrainRotary arg s
  | .getStatus arg => Sys2Proof.Machine.execGetStatus arg s
  | .getTimerCfg arg => Sys2Proof.Machine.execGetTimerCfg arg s
  | .reservedC arg => Sys2Proof.Machine.execReservedC arg s
  | .reservedD arg => Sys2Proof.Machine.execReservedD arg s
  | .reservedE arg => Sys2Proof.Machine.execReservedE arg s
  | .reservedF arg => Sys2Proof.Machine.execReservedF arg s
  | .tick e estop => Sys2Proof.Machine.execTick e estop s
  | .btn b => Sys2Proof.Machine.execBtn b s
  | .rot q p => Sys2Proof.Machine.execRot q p s
  | .rst => Sys2Proof.Machine.execRst s

end Sys2Proof.Machine
end

