-- ==== Sys2Proof/Machine/Cycle.lean ====
section
/-! DEFINITION. The cycle level: one clock cycle as a function of the registers and port values of
that cycle (R18), with the order of a command and the events of the cycle (R236, R237). -/

namespace Sys2Proof.Machine

/-- The prescale counter is at `DIV[DIV_SEL] - 1` (R140). -/
def prescaleWraps (s : State) : Bool := decide (s.psc.toNat + 1 = s.cfg.divisor s.divSel.toNat)

/-- The count is at `TICK_COUNT - 1` (R140). -/
def countMatches (s : State) : Bool := decide (s.tcnt.toNat + 1 = s.tickCount.toNat)

/-- The compare match: a TICK happens in this cycle (R140). -/
def tickDue (s : State) : Bool := s.run && prescaleWraps s && countMatches s

/-- `btn_edge` (R182). -/
def btnEdge (s : State) : Bool := s.capEn && decide (s.btnS ≠ s.btnP)

/-- The settle delay ends: a BTN event happens in this cycle (R183). No run reaches a delay with
capture disabled (log 11). -/
def btnDue (s : State) : Bool := s.capEn && decide (s.settleCtr = 1)

/-- `rot_edge`: a ROT event happens in this cycle (R186, R187). -/
def rotDue (s : State) : Bool := s.capEn && decide (s.secS ≠ s.secP)

/-- The periodic timer's own update (R140). -/
def advanceTimer (s : State) : State :=
  if s.run then
    if prescaleWraps s then
      if countMatches s then { s with psc := 0, tcnt := 0 }
      else { s with psc := 0, tcnt := s.tcnt + 1 }
    else { s with psc := s.psc + 1 }
  else s

/-- The pulse hold counter in a cycle without a pulse decision (R148). -/
def advancePulse (s : State) : State :=
  if s.pwCtr = 0 then s else { s with pwCtr := s.pwCtr - 1 }

/-- The settle delay and its pending flag (R183). -/
def advanceSettle (s : State) : State :=
  if s.settleCtr = 0 then
    if btnEdge s then { s with settleCtr := BitVec.ofNat 32 s.cfg.settleCycles } else s
  else if s.settleCtr = 1 then
    if btnEdge s || s.btnPend then
      { s with settleCtr := BitVec.ofNat 32 s.cfg.settleCycles, btnPend := false }
    else { s with settleCtr := 0 }
  else if btnEdge s then { s with settleCtr := s.settleCtr - 1, btnPend := true }
  else { s with settleCtr := s.settleCtr - 1 }

/-- The flip-flops on the asynchronous inputs and the edge history, whatever `CAP_EN` is (R154, R181). -/
def advanceSync (p : Ports) (s : State) : State :=
  { s with endM := p.endstop, endS := s.endM, estM := p.estop, estS := s.estM,
           btnM := p.btn, btnS := s.btnM, btnP := s.btnS,
           secM := p.rotSec, secS := s.secM, secP := s.secS,
           priM := p.rotPri, priS := s.priM }

/-- The hidden registers' own update in a cycle with `rst = 0`. The synchronisers come last, so that
the settle logic reads `BTN_S` and `BTN_P` of this cycle. -/
def advanceHidden (p : Ports) (s : State) : State :=
  advanceSync p (advanceSettle (advancePulse (advanceTimer s)))

/-- The events of the cycle, in the order of R236, with the operands that R154, R183 and R187 give. -/
def cycleEvents (s : State) : List Instr :=
  (if tickDue s then [Instr.tick s.endS s.estS] else []) ++
  (if btnDue s then [Instr.btn s.btnS] else []) ++
  (if rotDue s then [Instr.rot s.secS s.priS] else [])

/-- The command of the cycle (R70, R78). -/
def cycleCommand (p : Ports) : Option Instr :=
  if p.cmdValid then some (decodeCommand p.cmdWord) else none

/-- R237 (b): the commands ordered after the TICK of the cycle. All others, by (a), come before the
events; a reserved command writes nothing, so its place makes no difference (log 10). -/
def afterEvents : Instr → Bool
  | .initTimer _ | .reconfigure _ | .stop _ | .setDir _ _ | .clearStopReason _ => true
  | _ => false

/-- The steps of a cycle with `rst = 0`, in the order whose result is the next state (R193, R237). -/
def cycleSteps (p : Ports) (s : State) : List Instr :=
  match cycleCommand p with
  | none => cycleEvents s
  | some i => if afterEvents i then cycleEvents s ++ [i] else i :: cycleEvents s

/-- One step of the cycle's list; a step that is not enabled is no step. -/
def applyStep (s : State) (i : Instr) : State :=
  match exec i s with
  | .next t => t
  | _ => s

/-- The response ports in the cycle: computed from the registers of the cycle, before any event of
it; 0 without a command (R70, R78, R237). -/
def cycleResponse (p : Ports) (s : State) : Outputs :=
  match cycleCommand p with
  | none => silent
  | some i => (applyStep s i).out

/-- The TICK of the cycle emits PULSE. -/
def cyclePulse (s : State) : Bool :=
  tickDue s && (applyStep s (.tick s.endS s.estS)).out.pulse

/-- One clock cycle (R18). Reset overrides everything else in its cycle (R223, R42). -/
def cycle (p : Ports) (s : State) : State :=
  if p.rst then resetRegisters s
  else drive { cycleResponse p s with pulse := cyclePulse s }
    ((cycleSteps p s).foldl applyStep (advanceHidden p s))

end Sys2Proof.Machine
end

