-- ==== Sys2Proof/Machine/Fetch.lean ====
section
/-! DEFINITION. Taking the next entry of the environment's schedule. -/

namespace Sys2Proof.Machine

/-- Run the event-level step a trace word spells (R79); a word that spells none is refused (U13). -/
def runTrace (tw : TraceWord) (s : State) : Host.Outcome State Fault Refusal :=
  match decode tw with
  | .ok i => exec i s
  | .error e => .refused (.notAStep e)

/-- Run one entry of the schedule. -/
def runStimulus (x : Stimulus) (s : State) : Host.Outcome State Fault Refusal :=
  match x with
  | .trace tw => runTrace tw s
  | .cycle p => .next (cycle p s)

/-- Put an entry before the schedule. -/
def schedule (x : Stimulus) (s : State) : State := { s with inputs := x :: s.inputs }

/-- The trace word in a table row's bits; bits at `nbits` and above are 0. -/
def tableTraceWord (nbits w : Nat) : TraceWord := BitVec.ofNat 40 (w % 2 ^ nbits)

end Sys2Proof.Machine
end

