-- ==== Sys2Proof/Machine/Step.lean ====
section
/-! DEFINITION. One step of the machine: the next entry of the environment's schedule (log 2). -/

namespace Sys2Proof.Machine

/-- Take the next entry of the schedule: one event-level step, or one clock cycle. With nothing
scheduled there is no step to take. -/
def step (s : State) : Host.Outcome State Fault Refusal :=
  match s.inputs with
  | [] => .refused .noInput
  | x :: rest => runStimulus x { s with inputs := rest }

/-- The state whose very next step is the instruction with these bits (log 2). -/
def State.withFetchWord (s : State) (nbits w : Nat) : State :=
  schedule (.trace (tableTraceWord nbits w)) s

end Sys2Proof.Machine
end

