-- ==== Sys2Proof/Machine/Text.lean ====
section
/-! DEFINITION. The text form of runs (R83) and its pseudo-instructions (R84): notation, not hardware
(D30). A line spells a list of steps and, after `->`, the response the text records (log 16). -/

namespace Sys2Proof.Machine

/-- `FEED d, r` is `SET_DIR d` then `RECONFIGURE r` (R84). -/
def feed (d : BitVec 2) (rate : Word) : List Instr := [.setDir 0 d, .reconfigure rate]
/-- `HALT` is `RECONFIGURE 0` (R84). -/
def halt : List Instr := [.reconfigure 0]
/-- `POLL` is `DRAIN_BUTTONS` then `DRAIN_ROTARY` then `GET_STOP_REASON` (R84). -/
def poll : List Instr := [.drainButtons 0, .drainRotary 0, .getStopReason 0]
/-- `BOOT` is `INIT_INPUTS` then `INIT_TIMER` (R84). -/
def boot : List Instr := [.initInputs 0, .initTimer 0]

/-- A line without its comment, which `;` starts (R83). -/
def uncomment : List Char → List Char
  | [] => []
  | c :: cs => if c = ';' then [] else c :: uncomment cs

/-- The pieces of a text between the separators. -/
def splitAt (sep : Char) : List Char → List (List Char)
  | [] => [[]]
  | c :: cs =>
    match splitAt sep cs with
    | [] => [[c]]
    | w :: ws => if c = sep then [] :: w :: ws else (c :: w) :: ws

/-- The words of a line; a comma separates like a space. -/
def wordsOf (line : List Char) : List (List Char) :=
  (splitAt ' ' ((uncomment line).map fun c => if c = ',' then ' ' else c)).filter (· ≠ [])

/-- The value of a digit in a base. -/
def digitIn (base : Nat) (c : Char) : Option Nat :=
  let v := if '0' ≤ c ∧ c ≤ '9' then c.toNat - 48
    else if 'A' ≤ c ∧ c ≤ 'F' then c.toNat - 55
    else if 'a' ≤ c ∧ c ≤ 'f' then c.toNat - 87
    else base
  if v < base then some v else none

/-- Digits read after `acc`. -/
def digits (base : Nat) : List Char → Nat → Option Nat
  | [], acc => some acc
  | c :: cs, acc => match digitIn base c with
    | some v => digits base cs (acc * base + v)
    | none => none

/-- A number: decimal, `0x` hexadecimal or `0b` binary (R83). -/
def number : List Char → Option Nat
  | '0' :: 'x' :: c :: cs => digits 16 (c :: cs) 0
  | '0' :: 'b' :: c :: cs => digits 2 (c :: cs) 0
  | c :: cs => digits 10 (c :: cs) 0
  | [] => none

/-- A number that fits `w` bits. -/
def numberBits (w : Nat) (cs : List Char) : Option (BitVec w) :=
  match number cs with
  | some n => if n < 2 ^ w then some (BitVec.ofNat w n) else none
  | none => none

/-- The argument of SET_DIR: a direction's name (R17) or a code. -/
def directionCode (cs : List Char) : Option (BitVec 2) :=
  if cs = "NONE".toList then some (dirCode .none)
  else if cs = "CW".toList then some (dirCode .cw)
  else if cs = "CCW".toList then some (dirCode .ccw)
  else numberBits 2 cs

/-- `key=0` or `key=1`. -/
def sample (key : Char) : List Char → Option Bool
  | [k, '=', v] => if k = key ∧ v = '0' then some false else if k = key ∧ v = '1' then some true else none
  | _ => none

/-- Two samples, in either order. -/
def samples (k₁ k₂ : Char) (a b : List Char) : Option (Bool × Bool) :=
  match sample k₁ a, sample k₂ b, sample k₁ b, sample k₂ a with
  | some x, some y, _, _ => some (x, y)
  | _, _, some x, some y => some (x, y)
  | _, _, _, _ => none

/-- A mnemonic or pseudo-instruction that stands alone (R75, R84). -/
def plainCommand (m : List Char) : Option (List Instr) :=
  if m = "NOP".toList then some [.nop 0]
  else if m = "INIT_TIMER".toList then some [.initTimer 0]
  else if m = "INIT_INPUTS".toList then some [.initInputs 0]
  else if m = "STOP".toList then some [.stop 0]
  else if m = "GET_STOP_REASON".toList then some [.getStopReason 0]
  else if m = "CLEAR_STOP_REASON".toList then some [.clearStopReason 0]
  else if m = "DRAIN_BUTTONS".toList then some [.drainButtons 0]
  else if m = "DRAIN_ROTARY".toList then some [.drainRotary 0]
  else if m = "GET_STATUS".toList then some [.getStatus 0]
  else if m = "GET_TIMER_CFG".toList then some [.getTimerCfg 0]
  else if m = "HALT".toList then some halt
  else if m = "POLL".toList then some poll
  else if m = "BOOT".toList then some boot
  else none

/-- A directive, which starts with a dot, and its operands (R83). -/
def directive (m : List Char) (args : List (List Char)) : Option Instr :=
  match args with
  | [] => if m = ".rst".toList then some .rst else none
  | [a] => if m = ".btn".toList then (numberBits 6 a).map .btn else none
  | [a, b] =>
    if m = ".tick".toList then (samples 'e' 's' a b).map fun v => .tick v.1 v.2
    else if m = ".rot".toList then (samples 'q' 'p' a b).map fun v => .rot v.1 v.2
    else none
  | _ => none

/-- The steps of a line's words: `*N` after a directive repeats it (R83). -/
def stepsOf (ws : List (List Char)) : Option (List Instr) :=
  match ws with
  | [] => some []
  | m :: args =>
    match m with
    | '.' :: _ =>
      match splitAt '*' m with
      | [d] => (directive d args).map fun i => [i]
      | [d, n] => match directive d args, number n with
        | some i, some k => some (List.replicate k i)
        | _, _ => none
      | _ => none
    | _ =>
      match args with
      | [] => plainCommand m
      | [a] =>
        if m = "RECONFIGURE".toList then (numberBits 32 a).map fun r => [.reconfigure r]
        else if m = "SET_DIR".toList then (directionCode a).map fun d => [.setDir 0 d]
        else none
      | [a, b] =>
        if m = "FEED".toList then match directionCode a, numberBits 32 b with
          | some d, some r => some (feed d r)
          | _, _ => none
        else none
      | _ => none

/-- The words before `->`, and the response recorded after it (R83). -/
def splitResponse : List (List Char) → Option (List (List Char) × Option Word)
  | [] => some ([], none)
  | w :: ws =>
    if w = "->".toList then
      match ws with
      | [r] => (numberBits 32 r).map fun v => ([], some v)
      | _ => none
    else (splitResponse ws).map fun x => (w :: x.1, x.2)

/-- One line of a run's text: its steps and the response it records, or none if it is no such line. -/
def parseLine (line : List Char) : Option (List Instr × Option Word) :=
  match splitResponse (wordsOf line) with
  | some (ws, r) => (stepsOf ws).map fun is => (is, r)
  | none => none

end Sys2Proof.Machine
end

