-- ==== Sys2Proof/Safety.lean ====
section
/-! DEFINITION. The terms in which statements speak: event-level and cycle-level runs, the architected
part of a state, the enabling conditions, the invariants of R43, the table of writers (R38), the
timer's phase and fairness (R141). -/

namespace Sys2Proof.Machine

/-- The universal safe state: the motor is stopped (R230). -/
def motorStopped (s : State) : Prop := s.run = false

/-- The enabling condition of a step (R60, R141, R184, R187). -/
def enabled (i : Instr) (s : State) : Bool :=
  match i with
  | .tick _ _ => s.run
  | .btn _ | .rot _ _ => s.capEn
  | _ => true

/-- An event-level run: the steps one after the other (R59). -/
def runSteps : List Instr → State → Host.Outcome State Fault Refusal
  | [], s => .next s
  | i :: is, s =>
    match exec i s with
    | .next t => runSteps is t
    | .fault r => .fault r
    | .refused r => .refused r

/-- A cycle-level run: one cycle after the other (R18). -/
def runCycles (ps : List Ports) (s : State) : State := ps.foldl (fun t p => cycle p t) s

/-- The steps a cycle contributes to the event level (R193): RST alone in a reset cycle (R223). -/
def projectCycle (p : Ports) (s : State) : List Instr := if p.rst then [.rst] else cycleSteps p s

/-- The projection of a cycle-level run onto its sequence of steps (R193). -/
def projectRun : List Ports → State → List Instr
  | [], _ => []
  | p :: ps, s => projectCycle p s ++ projectRun ps (cycle p s)

/-- The ten architected registers (R22). -/
structure Arch where
  run : Bool
  divSel : BitVec 8
  tickCount : BitVec 8
  stopReason : StopReason
  stopDir : Dir
  debCnt : BitVec 16
  desiredDir : Dir
  capEn : Bool
  btnAcc : Buttons
  rotAcc : Word
deriving DecidableEq, Repr

/-- The architected part of a state (R22). -/
def arch (s : State) : Arch where
  run := s.run
  divSel := s.divSel
  tickCount := s.tickCount
  stopReason := s.stopReason
  stopDir := s.stopDir
  debCnt := s.debCnt
  desiredDir := s.desiredDir
  capEn := s.capEn
  btnAcc := s.btnAcc
  rotAcc := s.rotAcc

/-- A state without what its latest step put out. -/
def quiet (s : State) : State := drive silent s

/-- The invariants of R43, with those the capture logic keeps (R180, R183). R43 (b) holds by the
types of `STOP_REASON`, `STOP_DIR` and `DESIRED_DIR`. -/
structure Invariants (s : State) : Prop where
  /-- R43 (a): `DEB_CNT <= T - 1`. -/
  debounceBelow : s.debCnt.toNat < s.cfg.threshold
  /-- R43 (c): `RUN = 1` implies `1 <= TICK_COUNT`. -/
  runningCount : s.run = true → 1 ≤ s.tickCount.toNat
  /-- R43 (c), and in a stopped state too, since `DIV_SEL` is 0 or a selected index. -/
  selectInTable : s.divSel.toNat < s.cfg.ndiv
  /-- R43 (d): `RUN = 1` implies `STOP_REASON = NONE`. -/
  runningReason : s.run = true → s.stopReason = .none
  /-- R43 (e): `DEB_CNT >= 1` implies `STOP_DIR = NONE`. -/
  countingNoLatch : 1 ≤ s.debCnt.toNat → s.stopDir = .none
  /-- R43 (f): `PSC < DIV[DIV_SEL]`. -/
  prescaleBelow : s.psc.toNat < s.cfg.divisor s.divSel.toNat
  /-- R43 (f): `TCNT < max(TICK_COUNT, 1)`. -/
  countBelow : s.tcnt.toNat < max s.tickCount.toNat 1
  /-- R43 (f): `PW_CTR <= PW_CYCLES`. -/
  pulseBelow : s.pwCtr.toNat ≤ s.cfg.pwCycles
  /-- R43 (f): `SETTLE_CTR <= SETTLE_CYCLES`. -/
  settleBelow : s.settleCtr.toNat ≤ s.cfg.settleCycles
  /-- A settle delay runs only with capture enabled (R182, R183, R30). -/
  settleEnabled : s.settleCtr ≠ 0 → s.capEn = true
  /-- A sample is owed only while a delay runs (R183). -/
  pendingSettles : s.btnPend = true → s.settleCtr ≠ 0
  /-- The accumulators are zero while capture is disabled (R180). -/
  disabledEmpty : s.capEn = false → s.btnAcc = 0 ∧ s.rotAcc = 0

/-- The architected registers by name (R22). -/
inductive ArchReg where
  | run | divSel | tickCount | stopReason | stopDir | debCnt | desiredDir | capEn | btnAcc | rotAcc
deriving DecidableEq, Repr

/-- The W entries of the table of R38, with RST, which writes every register (R42). -/
def writes (r : ArchReg) (i : Instr) : Bool :=
  match i with
  | .initTimer _ => r ∈ [.run, .divSel, .tickCount, .stopReason, .stopDir, .debCnt]
  | .reconfigure _ => r ∈ [.run, .divSel, .tickCount, .stopReason]
  | .stop _ => r ∈ [.run]
  | .setDir _ _ => r ∈ [.desiredDir]
  | .clearStopReason _ => r ∈ [.stopReason]
  | .tick _ _ => r ∈ [.run, .stopReason, .stopDir, .debCnt]
  | .initInputs _ => r ∈ [.capEn]
  | .btn _ => r ∈ [.btnAcc]
  | .rot _ _ => r ∈ [.rotAcc]
  | .drainButtons _ => r ∈ [.btnAcc]
  | .drainRotary _ => r ∈ [.rotAcc]
  | .rst => true
  | .nop _ | .getStopReason _ | .getStatus _ | .getTimerCfg _
  | .reservedC _ | .reservedD _ | .reservedE _ | .reservedF _ => false

/-- The compare period in cycles, `TICK_COUNT * DIV[DIV_SEL]` (R140). -/
def comparePeriod (s : State) : Nat := s.tickCount.toNat * s.cfg.divisor s.divSel.toNat

/-- How many cycles of the compare period have passed: `TCNT * DIV[DIV_SEL] + PSC` (R140). -/
def timerPhase (s : State) : Nat := s.tcnt.toNat * s.cfg.divisor s.divSel.toNat + s.psc.toNat

/-- The hazard condition of R264: the compare period is longer than the pulse. -/
def pulseFits (s : State) : Prop := s.cfg.pwCycles < comparePeriod s

/-- A cycle with neither reset nor command. -/
def idlePorts (p : Ports) : Bool := !p.rst && !p.cmdValid

/-- No cycle of the run emits PULSE. -/
def noPulse : List Ports → State → Bool
  | [], _ => true
  | p :: ps, s => !(cycle p s).out.pulse && noPulse ps (cycle p s)

/-- A button edge is found in some cycle of the run (R182). -/
def edgeSeen : List Ports → State → Bool
  | [], _ => false
  | p :: ps, s => btnEdge s || edgeSeen ps (cycle p s)

/-- How many BTN events the cycles of the run have (R183); a reset cycle has none (R223). -/
def sampleCount : List Ports → State → Nat
  | [], _ => 0
  | p :: ps, s => (if !p.rst && btnDue s then 1 else 0) + sampleCount ps (cycle p s)

/-- How many PULSE events an event-level run emits. -/
def pulseCount : List Instr → State → Nat
  | [], _ => 0
  | i :: is, s =>
    match exec i s with
    | .next t => (if t.out.pulse then 1 else 0) + pulseCount is t
    | _ => 0

/-- Weak fairness of TIMER on an infinite event-level run (R141): from any point on, either `RUN` is
0 some time or a TICK happens. -/
def timerFair (states : Nat → State) (steps : Nat → Instr) : Prop :=
  ∀ n, ∃ m, n ≤ m ∧ ((states m).run = false ∨ ∃ e f, steps m = .tick e f)

/-- An infinite event-level run (R60). -/
def eventRun (states : Nat → State) (steps : Nat → Instr) : Prop :=
  ∀ n, exec (steps n) (states n) = .next (states (n + 1))

end Sys2Proof.Machine
end

