-- ==== Sys2Proof/Certificates/Slice0/Obligations.lean ====
section
/-! DEFINITION. The statements for the provers. Each docstring names the rule it formalises or says
that the statement rests on a choice of the model. Numbers and bit places are written out here, not
taken from the model's own operations, wherever the rule gives them. Where an event-level step is
given its whole next state, that the hidden registers its pseudocode does not name, and the schedule,
stay as they are is the model's (logs 4 and 2), not the rule's. -/

open Sys2Proof Sys2Proof.Machine

/-! ### Words -/

/-- Decoding the encoding of a step gives it back, with every operand bit (R71, R72, R75, R79). -/
def Obligations.DecodeOfEncode : Prop :=
  ∀ i : Instr, i.wf = true → decode (encode i) = .ok i

/-- A word that decodes is the encoding of what it decodes to: no two words stand for one step, so
no bit of a word is lost (the ignored bits of R77 are operands, log 12). -/
def Obligations.EncodeOfDecode : Prop :=
  ∀ (tw : TraceWord) (i : Instr), decode tw = .ok i → encode i = tw

/-- The words that decode are exactly those of the five shapes of R79 and the opcode table. -/
def Obligations.DecodesExactlyTraceWords : Prop :=
  ∀ tw : TraceWord, (∃ i, decode tw = .ok i) ↔ TraceWord.wf tw = true

/-- A few words written out from R71, R75 and R79 decode to the steps they stand for. -/
def Obligations.SpecWordsDecode : Prop :=
  decode 0x0300002710 = .ok (.reconfigure 10000) ∧
  decode 0x05FFFFFFFE = .ok (.setDir 0x3FFFFFFF 2) ∧
  decode 0x0A00000000 = .ok (.getStatus 0) ∧
  decode 0x1000000001 = .ok (.tick true false) ∧
  decode 0x2000000014 = .ok (.btn 0b010100) ∧
  decode 0x3000000002 = .ok (.rot true false) ∧
  decode 0xF000000000 = .ok .rst ∧
  decode 0x4000000000 = .error .classNotAStep ∧
  decode 0x1000000004 = .error .unusedBitsNotZero

/-- R77: ignored argument bits have no effect, and no value of them is refused. -/
def Obligations.IgnoredBitsExecuteTheSame : Prop :=
  ∀ (s : State) (mk : Word → Instr),
    mk ∈ [Instr.nop, .initTimer, .initInputs, .stop, .getStopReason, .clearStopReason,
      .drainButtons, .drainRotary, .getStatus, .getTimerCfg] →
    (∀ a b : Word, exec (mk a) s = exec (mk b) s ∧ ∃ t, exec (mk a) s = .next t) ∧
    (∀ (a b : BitVec 30) (d : BitVec 2),
      exec (.setDir a d) s = exec (.setDir b d) s ∧ ∃ t, exec (.setDir a d) s = .next t)

/-! ### The schedule -/

/-- A step runs the decoded instruction: when the next entry of the schedule is a trace word that
decodes to i, step is exec of i with that entry taken off. When it is a clock cycle, step is that
cycle. The schedule is the model's (log 2). -/
def Obligations.StepRunsScheduledEntry : Prop :=
  (∀ (s : State) (tw : TraceWord) (rest : List Stimulus) (i : Instr),
    s.inputs = .trace tw :: rest → decode tw = .ok i → i.wf = true →
      step s = exec i { s with inputs := rest }) ∧
  (∀ (s : State) (p : Ports) (rest : List Stimulus),
    s.inputs = .cycle p :: rest → step s = .next (cycle p { s with inputs := rest })) ∧
  (∀ (s : State) (tw : TraceWord) (rest : List Stimulus) (e : DecodeError),
    s.inputs = .trace tw :: rest → decode tw = .error e → step s = .refused (.notAStep e))

/-- An instruction placed by `withFetchWord` is the very next one that step runs (log 2). -/
def Obligations.FetchWordRunsNext : Prop :=
  ∀ (s : State) (nbits w : Nat) (i : Instr),
    decodeTableWord nbits w = some i → step (s.withFetchWord nbits w) = exec i s

/-- A scheduled entry completes exactly when it is a clock cycle or an enabled step (R60, R141, R184,
R187), and nothing ever faults (R230). -/
def Obligations.StepCompletesExactlyWhenEnabled : Prop :=
  (∀ (s : State) (x : Stimulus) (rest : List Stimulus), s.inputs = x :: rest →
    ((∃ t, step s = .next t) ↔
      match x with
      | .cycle _ => True
      | .trace tw => ∃ i, decode tw = .ok i ∧ enabled i s = true)) ∧
  (∀ (s : State) (r : Fault), step s ≠ .fault r)

/-! ### Commands -/

/-- R220: NOP responds 0 and writes nothing, and a cycle with a NOP differs from a cycle without a
command in nothing. -/
def Obligations.NopChangesNothing : Prop :=
  (∀ (arg : Word) (s : State), exec (.nop arg) s = .next { s with out := {} }) ∧
  (∀ (p : Ports) (arg : Word) (s : State), decodeCommand p.cmdWord = .nop arg →
    cycle { p with cmdValid := true } s = cycle { p with cmdValid := false } s)

/-- R76: the reserved opcodes and the reserved direction code change no state, respond 0 and raise
`rsp_err`; nothing stops. -/
def Obligations.ReservedEncodingsOnlyRaiseError : Prop :=
  ∀ s : State,
    (∀ arg : Word,
      exec (.reservedC arg) s = .next { s with out := { rspData := 0, rspErr := true } } ∧
      exec (.reservedD arg) s = .next { s with out := { rspData := 0, rspErr := true } } ∧
      exec (.reservedE arg) s = .next { s with out := { rspData := 0, rspErr := true } } ∧
      exec (.reservedF arg) s = .next { s with out := { rspData := 0, rspErr := true } }) ∧
    (∀ ignored : BitVec 30,
      exec (.setDir ignored 3) s = .next { s with out := { rspData := 0, rspErr := true } })

/-- R110: what INIT_TIMER writes, that it writes nothing else, and that after RST it changes nothing. -/
def Obligations.InitTimerResetsTimingEngine : Prop :=
  (∀ (arg : Word) (s : State), exec (.initTimer arg) s = .next
    { s with run := false, stopReason := .none, divSel := 0, tickCount := 0, stopDir := .none,
             debCnt := 0, psc := 0, tcnt := 0, out := {} }) ∧
  (∀ (arg : Word) (c : Config) (ins : List Stimulus),
    exec (.initTimer arg) (State.resetWith c ins) = .next (State.resetWith c ins))

/-- R111: the four outcomes of RECONFIGURE, with A and B(i) of R103 written out, and what each
leaves unchanged. -/
def Obligations.ReconfigureOutcomes : Prop :=
  ∀ (s : State) (rate : Word),
    let R : Int := rate.toNat * s.cfg.spu
    let A : Int := (1000000000 - s.cfg.pwUs * R) * s.cfg.fClkHz
    let B : Nat → Int := fun i => s.cfg.divisor i * 1000000 * R
    (rate = 0 → exec (.reconfigure rate) s = .next
      { s with run := false, stopReason := .none, out := { rspData := 0b001 } }) ∧
    (rate ≠ 0 → A < B 0 → exec (.reconfigure rate) s = .next
      { s with run := false, out := { rspData := 0b010 } }) ∧
    (∀ i, rate ≠ 0 → B 0 ≤ A → i < s.cfg.ndiv → A ≤ 255 * B i → (∀ j < i, 255 * B j < A) →
      exec (.reconfigure rate) s = .next
        { s with divSel := BitVec.ofNat 8 i, tickCount := BitVec.ofNat 8 (A / B i).toNat,
                 psc := 0, tcnt := 0, run := true, stopReason := .none, out := { rspData := 0b001 } }) ∧
    (rate ≠ 0 → B 0 ≤ A → (∀ i < s.cfg.ndiv, 255 * B i < A) → exec (.reconfigure rate) s = .next
      { s with run := false, out := { rspData := 0b100 } })

/-- R103: the integer form of the decoder agrees with the exact rational delay of R102 and the count
period of R101. -/
def Obligations.IntegerFormMatchesRational : Prop :=
  ∀ (c : Config) (rate i : Nat), 0 < rate → i < c.ndiv →
    let R : Int := rate * c.spu
    let A : Int := (1000000000 - c.pwUs * R) * c.fClkHz
    let B : Int := c.divisor i * 1000000 * R
    let delay : ℚ := 1000000000 / (rate * c.spu) - c.pwUs
    let period : ℚ := c.divisor i * 1000000 / c.fClkHz
    delayUs c rate = delay ∧ c.tickPeriodUs i = period ∧
    delay / period = (A : ℚ) / B ∧ (delay < period ↔ A < B) ∧
    (delay ≤ 255 * period ↔ A ≤ 255 * B) ∧ ⌊delay / period⌋ = A / B

/-- R108: whenever the decoder succeeds the tick count is 1 to 255, and the index is one of the table. -/
def Obligations.TickCountBounds : Prop :=
  ∀ (c : Config) (rate i n : Nat), 0 < rate → decodeRate c rate = .program i n →
    1 ≤ n ∧ n ≤ 255 ∧ i < c.ndiv

/-- R109, P9: after a successful RECONFIGURE, the delay implied by the programmed registers is the
requested delay to within one count period, and never longer. -/
def Obligations.QuantisationBound : Prop :=
  ∀ (s t : State) (rate : Word), rate ≠ 0 → exec (.reconfigure rate) s = .next t →
    t.out.rspData = 1 →
    let implied : ℚ := t.tickCount.toNat * s.cfg.tickPeriodUs t.divSel.toNat
    0 ≤ delayUs s.cfg rate.toNat - implied ∧
    delayUs s.cfg rate.toNat - implied < s.cfg.tickPeriodUs t.divSel.toNat

/-- R116, MC's P1, P2 and P3, over the exact rational delay: P1 the finest option that reaches is
selected; P2 outside the achievable range RECONFIGURE fails and the timer is stopped; P3 rate 0
succeeds and stops the timer. -/
def Obligations.DecoderProperties : Prop :=
  (∀ (s : State) (rate : Word), rate ≠ 0 →
    s.cfg.tickPeriodUs 0 ≤ delayUs s.cfg rate.toNat →
    delayUs s.cfg rate.toNat ≤ 255 * s.cfg.tickPeriodUs (s.cfg.ndiv - 1) →
    ∃ t, exec (.reconfigure rate) s = .next t ∧ t.out.rspData = 1 ∧ t.run = true ∧
      t.divSel.toNat < s.cfg.ndiv ∧
      delayUs s.cfg rate.toNat ≤ 255 * s.cfg.tickPeriodUs t.divSel.toNat ∧
      ∀ j < s.cfg.ndiv, delayUs s.cfg rate.toNat ≤ 255 * s.cfg.tickPeriodUs j → t.divSel.toNat ≤ j) ∧
  (∀ (s : State) (rate : Word), rate ≠ 0 →
    (delayUs s.cfg rate.toNat < s.cfg.tickPeriodUs 0 ∨
      255 * s.cfg.tickPeriodUs (s.cfg.ndiv - 1) < delayUs s.cfg rate.toNat) →
    ∃ t, exec (.reconfigure rate) s = .next t ∧ t.out.rspData.getLsbD 0 = false ∧ t.run = false) ∧
  (∀ s : State, ∃ t, exec (.reconfigure 0) s = .next t ∧ t.out.rspData = 1 ∧ t.run = false)

/-- R114: every intermediate value of the decoder fits a 128-bit signed datapath, and the one
division has a positive divisor that is at most its dividend. -/
def Obligations.DecoderArithmeticFits : Prop :=
  ∀ (c : Config) (rate : Word) (i : Nat), i < c.ndiv →
    let R : Int := rate.toNat * c.spu
    let A : Int := (1000000000 - c.pwUs * R) * c.fClkHz
    let B : Int := c.divisor i * 1000000 * R
    R < 2 ^ 64 ∧ c.pwUs * R < 2 ^ 80 ∧ |A| < 2 ^ 112 ∧ B < 2 ^ 100 ∧ 255 * B < 2 ^ 108 ∧ (rate ≠ 0 → 0 < B) ∧
    (∀ n, rate ≠ 0 → decodeRate c rate.toNat = .program i n → B ≤ A)

/-- R112: STOP writes `RUN <- 0` and nothing else; with `RUN = 0` no TICK occurs until a restart, the
timer's counters freeze and a pulse in progress runs on; a TICK of the same cycle is taken first. -/
def Obligations.StopOnlyStopsTimer : Prop :=
  (∀ (arg : Word) (s : State), exec (.stop arg) s = .next { s with run := false, out := {} }) ∧
  (∀ (s : State) (e f : Bool), s.run = false → ∀ t, exec (.tick e f) s ≠ .next t) ∧
  (∀ (p : Ports) (s : State), s.run = false → idlePorts p = true →
    (cycle p s).psc = s.psc ∧ (cycle p s).tcnt = s.tcnt ∧ (cycle p s).run = false ∧
    (cycle p s).pwCtr.toNat = s.pwCtr.toNat - 1) ∧
  (∀ (p : Ports) (arg : Word) (s : State), p.rst = false → p.cmdValid = true →
    decodeCommand p.cmdWord = .stop arg →
    arch (cycle p s) = { arch (cycle { p with cmdValid := false } s) with run := false })

/-- R113: GET_TIMER_CFG writes no state, and the bits of its response. -/
def Obligations.GetTimerCfgLayout : Prop :=
  ∀ (arg : Word) (s : State), ∃ d : Word,
    exec (.getTimerCfg arg) s = .next { s with out := { rspData := d } } ∧
    d.extractLsb' 0 8 = s.tickCount ∧ d.extractLsb' 8 8 = s.divSel ∧ d.getLsbD 16 = s.run ∧
    d.extractLsb' 17 15 = 0

/-- R221: GET_STATUS writes no state, and the bits of its response, with the codes of R80 and R81. -/
def Obligations.GetStatusLayout : Prop :=
  ∀ (arg : Word) (s : State), ∃ d : Word,
    exec (.getStatus arg) s = .next { s with out := { rspData := d } } ∧
    d.getLsbD 0 = s.run ∧
    d.extractLsb' 1 2 = (match s.stopReason with | .none => 0#2 | .endstop => 1#2 | .emergencyStop => 2#2) ∧
    d.extractLsb' 3 2 = (match s.stopDir with | .none => 0#2 | .cw => 1#2 | .ccw => 2#2) ∧
    d.extractLsb' 5 2 = (match s.desiredDir with | .none => 0#2 | .cw => 1#2 | .ccw => 2#2) ∧
    d.getLsbD 7 = s.capEn ∧ d.extractLsb' 8 8 = 0 ∧ d.extractLsb' 16 16 = s.debCnt

/-- R150: SET_DIR writes the direction its code names, and nothing else; the reserved code changes
nothing and raises `rsp_err`. In a cycle the write of every code lands on top of what the cycle does
without the command, so the TICK of the same cycle decides on the old direction. -/
def Obligations.SetDirWritesDirection : Prop :=
  (∀ (ignored : BitVec 30) (s : State),
    exec (.setDir ignored 0) s = .next { s with desiredDir := .none, out := {} } ∧
    exec (.setDir ignored 1) s = .next { s with desiredDir := .cw, out := {} } ∧
    exec (.setDir ignored 2) s = .next { s with desiredDir := .ccw, out := {} } ∧
    exec (.setDir ignored 3) s = .next { s with out := { rspErr := true } }) ∧
  (∀ (p : Ports) (ignored : BitVec 30) (code : BitVec 2) (s : State), p.rst = false →
    p.cmdValid = true → decodeCommand p.cmdWord = .setDir ignored code →
    arch (cycle p s) = { arch (cycle { p with cmdValid := false } s) with
      desiredDir := if code = 0 then .none else if code = 1 then .cw else if code = 2 then .ccw
        else s.desiredDir } ∧
    (cycle p s).out.rspData = 0 ∧ (cycle p s).out.rspErr = decide (code = 3))

/-- R151: GET_STOP_REASON answers the reason's code and changes nothing. -/
def Obligations.GetStopReasonReads : Prop :=
  ∀ (arg : Word) (s : State), exec (.getStopReason arg) s = .next
    { s with out := { rspData := (match s.stopReason with | .none => 0 | .endstop => 1 | .emergencyStop => 2) } }

/-- R152: CLEAR_STOP_REASON writes `STOP_REASON <- NONE` and nothing else; with the invariant of R43
it changes no register while the timer runs. -/
def Obligations.ClearStopReasonClears : Prop :=
  (∀ (arg : Word) (s : State),
    exec (.clearStopReason arg) s = .next { s with stopReason := .none, out := {} }) ∧
  (∀ (arg : Word) (s : State), Invariants s → s.run = true →
    exec (.clearStopReason arg) s = .next { s with out := {} }) ∧
  (∀ (p : Ports) (arg : Word) (s : State), p.rst = false → p.cmdValid = true →
    decodeCommand p.cmdWord = .clearStopReason arg → (cycle p s).stopReason = .none)

/-- R180: INIT_INPUTS sets `CAP_EN` and writes nothing else; an edge of its own cycle is not captured;
no step but RST disables capture again. -/
def Obligations.InitInputsEnablesCapture : Prop :=
  (∀ (arg : Word) (s : State), exec (.initInputs arg) s = .next { s with capEn := true, out := {} }) ∧
  (∀ (p : Ports) (arg : Word) (s : State), p.rst = false → p.cmdValid = true →
    decodeCommand p.cmdWord = .initInputs arg → s.capEn = false →
    (cycle p s).capEn = true ∧ (cycle p s).btnAcc = s.btnAcc ∧ (cycle p s).rotAcc = s.rotAcc ∧
    (s.settleCtr = 0 → (cycle p s).settleCtr = 0)) ∧
  (∀ (i : Instr) (s t : State), exec i s = .next t → i ≠ .rst → s.capEn = true → t.capEn = true)

/-- R188: DRAIN_BUTTONS returns the set and clears it, twice in succession returns the empty set, and
a BTN event of the same cycle lands in the cleared register. -/
def Obligations.DrainButtonsReadsAndClears : Prop :=
  (∀ (arg : Word) (s : State), exec (.drainButtons arg) s = .next
    { s with btnAcc := 0, out := { rspData := s.btnAcc.setWidth 32 } }) ∧
  (∀ (a b : Word) (s : State), ∃ t, runSteps [.drainButtons a, .drainButtons b] s = .next t ∧
    t.out.rspData = 0) ∧
  (∀ (p : Ports) (arg : Word) (s : State), p.rst = false → p.cmdValid = true →
    decodeCommand p.cmdWord = .drainButtons arg →
    (cycle p s).out.rspData = s.btnAcc.setWidth 32 ∧
    (cycle p s).btnAcc = if s.capEn = true ∧ s.settleCtr = 1 then s.btnS else 0)

/-- R189: DRAIN_ROTARY returns the count and clears it; a ROT event of the same cycle lands in the
cleared register; after counts from 0 the drain returns their net sum. -/
def Obligations.DrainRotaryReadsAndClears : Prop :=
  (∀ (arg : Word) (s : State), exec (.drainRotary arg) s = .next
    { s with rotAcc := 0, out := { rspData := s.rotAcc } }) ∧
  (∀ (p : Ports) (arg : Word) (s : State), p.rst = false → p.cmdValid = true →
    decodeCommand p.cmdWord = .drainRotary arg →
    (cycle p s).out.rspData = s.rotAcc ∧
    (cycle p s).rotAcc =
      if s.capEn = true ∧ s.secS = false ∧ s.secP = true then
        (if s.priS = decide (s.cfg.rotPol = .plus) then 1 else -1) else 0) ∧
  (∀ (s : State) (ps : List Bool) (arg : Word), s.capEn = true → s.rotAcc = 0 →
    ∃ t, runSteps (ps.map (fun p => .rot false p) ++ [.drainRotary arg]) s = .next t ∧
      t.rotAcc = 0 ∧ t.out.rspData =
        BitVec.ofInt 32 (s.cfg.rotPol.sign * (ps.count true - ps.count false : Int)))

/-! ### Reset -/

/-- R42, R223: RST puts every register of R22 and R33 to its reset value, whatever else is presented
in its cycle; no command is answered and no pulse emitted. The configuration (R63) and the
environment's schedule stay. -/
def Obligations.ResetClearsEveryRegister : Prop :=
  ∀ s : State, ∃ t, exec .rst s = .next t ∧
    (∀ p : Ports, p.rst = true → cycle p s = t) ∧
    t.run = false ∧ t.divSel = 0 ∧ t.tickCount = 0 ∧ t.stopReason = .none ∧ t.stopDir = .none ∧
    t.debCnt = 0 ∧ t.desiredDir = .none ∧ t.capEn = false ∧ t.btnAcc = 0 ∧ t.rotAcc = 0 ∧
    t.psc = 0 ∧ t.tcnt = 0 ∧ t.pwCtr = 0 ∧ t.endM = false ∧ t.endS = false ∧ t.estM = false ∧
    t.estS = false ∧ t.btnM = 0 ∧ t.btnS = 0 ∧ t.btnP = 0 ∧ t.secM = false ∧ t.secS = false ∧
    t.secP = false ∧ t.priM = false ∧ t.priS = false ∧ t.settleCtr = 0 ∧ t.btnPend = false ∧
    stepPort t = false ∧ t.out.rspData = 0 ∧ t.out.rspErr = false ∧ t.out.pulse = false ∧
    t.cfg = s.cfg ∧ t.inputs = s.inputs

/-- The state right after reset is the one RST leads to (R42, R260): from it the four reads answer 0,
and no event is enabled. -/
def Obligations.ResetStateReadsZero : Prop :=
  (∀ i ∈ [Instr.getStatus 0, .getTimerCfg 0, .getStopReason 0, .drainButtons 0, .drainRotary 0],
    exec i State.reset = .next State.reset) ∧
  exec .rst State.reset = .next State.reset ∧
  (∀ e f, exec (.tick e f) State.reset = .refused .tickNotEnabled) ∧
  (∀ b, exec (.btn b) State.reset = .refused .captureNotEnabled) ∧
  (∀ q p, exec (.rot q p) State.reset = .refused .captureNotEnabled) ∧
  stepPort State.reset = false

/-! ### The per-tick decision -/

/-- R142: the five steps of the per-tick decision, with what each outcome writes and that it writes
nothing else. -/
def Obligations.TickDecisionOutcomes : Prop :=
  ∀ (s : State) (e f : Bool), s.run = true →
    let c : Nat := if e then s.debCnt.toNat + 1 else 0
    let l : Dir := if s.stopDir = .none then s.desiredDir else s.stopDir
    let pulse : BitVec 32 := BitVec.ofNat 32 s.cfg.pwCycles
    (c = s.cfg.threshold → (s.cfg.backaway = false ∨ s.desiredDir = l) →
      exec (.tick e f) s = .next { s with stopDir := l, debCnt := 0, run := false,
                                          stopReason := .endstop, out := {} }) ∧
    (c = s.cfg.threshold → s.cfg.backaway = true → s.desiredDir ≠ l →
      exec (.tick e f) s = if f
        then .next { s with stopDir := l, debCnt := 0, run := false, stopReason := .emergencyStop, out := {} }
        else .next { s with stopDir := l, debCnt := 0, pwCtr := pulse, out := { pulse := true } }) ∧
    (c ≠ s.cfg.threshold →
      exec (.tick e f) s = if f
        then .next { s with stopDir := .none, debCnt := BitVec.ofNat 16 c, run := false,
                            stopReason := .emergencyStop, out := {} }
        else .next { s with stopDir := .none, debCnt := BitVec.ofNat 16 c, pwCtr := pulse,
                            out := { pulse := true } })

/-- An event whose enable is off is no step (R141, R184, R187); the model refuses it by name (log 6). -/
def Obligations.DisabledEventsAreNoSteps : Prop :=
  (∀ (s : State) (e f : Bool), s.run = false → exec (.tick e f) s = .refused .tickNotEnabled) ∧
  (∀ (s : State) (b : Buttons), s.capEn = false → exec (.btn b) s = .refused .captureNotEnabled) ∧
  (∀ (s : State) (q p : Bool), s.capEn = false → exec (.rot q p) s = .refused .captureNotEnabled)

/-- R143: with `s = 1` no tick emits a pulse and every tick stops the timer; the reason is ENDSTOP
exactly when step 2 stops, and EMERGENCY_STOP on every other tick; the latch made at a threshold tick
stays, whichever of the two stops it. -/
def Obligations.EmergencyStopPriority : Prop :=
  ∀ (s : State) (e : Bool), s.run = true →
    let atThreshold : Prop := (if e then s.debCnt.toNat + 1 else 0) = s.cfg.threshold
    ∃ t, exec (.tick e true) s = .next t ∧ t.out.pulse = false ∧ t.run = false ∧
      (t.stopReason = .endstop ↔ (atThreshold ∧
        (s.cfg.backaway = false ∨ s.stopDir = .none ∨ s.desiredDir = s.stopDir))) ∧
      (t.stopReason ≠ .endstop → t.stopReason = .emergencyStop) ∧
      (atThreshold → t.stopDir = if s.stopDir = .none then s.desiredDir else s.stopDir)

/-- R144, P4: the count is of consecutive asserted samples. From a count of 0, n < T asserted ticks
pulse and leave the count at n; with an obstruction the T-th stops without a pulse; one de-asserted
sample returns the count to 0. -/
def Obligations.ConsecutiveAssertedSamples : Prop :=
  (∀ (s : State) (n : Nat), s.run = true → s.debCnt = 0 → n < s.cfg.threshold →
    ∃ t, runSteps (List.replicate n (.tick true false)) s = .next t ∧ t.debCnt.toNat = n ∧
      t.run = true ∧ t.stopReason = s.stopReason ∧ t.desiredDir = s.desiredDir ∧ t.cfg = s.cfg ∧
      (0 < n → t.out.pulse = true)) ∧
  (∀ s : State, s.run = true → s.debCnt = 0 →
    (s.cfg.backaway = false ∨ 2 ≤ s.cfg.threshold) →
    ∃ t, runSteps (List.replicate s.cfg.threshold (.tick true false)) s = .next t ∧
      t.run = false ∧ t.stopReason = .endstop ∧ t.debCnt = 0 ∧ t.out.pulse = false) ∧
  (∀ (s : State) (f : Bool), s.run = true →
    ∃ t, exec (.tick false f) s = .next t ∧ t.debCnt = 0 ∧ t.stopDir = .none)

/-- R146: for T >= 2 every threshold tick stops whatever `BACKAWAY` is (in every state with the
invariants of R43), and the first tick after a count of 0 clears the latch; for T = 1 the latch
survives asserted ticks and back-away works as P5 says. -/
def Obligations.BackAwayReach : Prop :=
  (∀ (s : State) (f : Bool), Invariants s → s.run = true → 2 ≤ s.cfg.threshold →
    s.debCnt.toNat + 1 = s.cfg.threshold →
    ∃ t, exec (.tick true f) s = .next t ∧ t.run = false ∧ t.stopReason = .endstop ∧
      t.stopDir = s.desiredDir ∧ t.out.pulse = false) ∧
  (∀ (s : State) (e f : Bool), s.run = true → 2 ≤ s.cfg.threshold → s.debCnt = 0 →
    ∃ t, exec (.tick e f) s = .next t ∧ t.stopDir = .none) ∧
  (∀ s : State, Invariants s → s.run = true → s.cfg.threshold = 1 → s.cfg.backaway = true →
    s.stopDir ≠ .none → s.desiredDir ≠ s.stopDir →
    (∃ t, exec (.tick true false) s = .next t ∧ t.run = true ∧ t.out.pulse = true ∧
      t.stopDir = s.stopDir ∧ t.debCnt = 0) ∧
    (∃ t, exec (.tick false false) s = .next t ∧ t.run = true ∧ t.out.pulse = true ∧
      t.stopDir = .none))

/-- R147: the stop-condition state machine, its complete transitions, over the states with the
invariants of R43. -/
def Obligations.StopStateMachine : Prop :=
  ∀ (i : Instr) (s t : State), Invariants s → exec i s = .next t →
    stopState t = match i with
      | .reconfigure rate =>
        if t.out.rspData = 1 then (if rate = 0 then .stopped .none else .running)
        else (match stopState s with | .running => .stopped .none | .stopped r => .stopped r)
      | .stop _ => (match stopState s with | .running => .stopped .none | .stopped r => .stopped r)
      | .initTimer _ | .rst => .stopped .none
      | .clearStopReason _ => (match stopState s with | .running => .running | .stopped _ => .stopped .none)
      | .tick _ f =>
        if t.out.pulse then .running
        else if t.stopReason = .endstop then .stopped .endstop
        else if f then .stopped .emergencyStop else .running
      | _ => stopState s

/-- R23, R240: the timer runs again only by a RECONFIGURE that succeeds with a non-zero rate, which
also clears the reason. -/
def Obligations.OnlyReconfigureRestarts : Prop :=
  ∀ (i : Instr) (s t : State), exec i s = .next t → s.run = false → t.run = true →
    ∃ rate : Word, i = .reconfigure rate ∧ rate ≠ 0 ∧ t.out.rspData = 1 ∧ t.stopReason = .none

/-- R232, R233: a RECONFIGURE whose response does not say success leaves the motor stopped and the
stop reason alone; and an automatic stop, a step that leaves a stop reason it did not find, leaves the
motor stopped without a pulse. A reserved command is reported too and stops nothing (R222). -/
def Obligations.FailedReconfigureAndAutomaticStopStopMotor : Prop :=
  (∀ (s : State) (rate : Word), ∃ t, exec (.reconfigure rate) s = .next t ∧
    (t.out.rspData.getLsbD 0 = false → motorStopped t ∧ t.stopReason = s.stopReason)) ∧
  (∀ (i : Instr) (s t : State), exec i s = .next t → t.stopReason ≠ s.stopReason →
    t.stopReason ≠ .none → motorStopped t ∧ t.out.pulse = false)

/-- R266: an ENDSTOP stop leaves the count at 0; for T >= 2, a timer restarted with a debounce count of 0 while the sensor stays asserted
emits T - 1 pulses, and the next tick stops it again, whatever the direction and `BACKAWAY` are. -/
def Obligations.RestartIntoAssertedEndstop : Prop :=
  (∀ (s t : State) (e f : Bool), exec (.tick e f) s = .next t → t.run = false →
    t.stopReason = .endstop → t.debCnt = 0) ∧
  ∀ (s t : State) (rate : Word), s.debCnt = 0 → 2 ≤ s.cfg.threshold →
    exec (.reconfigure rate) s = .next t → t.run = true →
    let run (n : Nat) : List Instr := .reconfigure rate :: List.replicate n (.tick true false)
    (∀ n, n < s.cfg.threshold → pulseCount (run n) s = n ∧
      ∃ u, runSteps (run n) s = .next u ∧ u.run = true) ∧
    pulseCount (run s.cfg.threshold) s = s.cfg.threshold - 1 ∧
    ∃ u, runSteps (run s.cfg.threshold) s = .next u ∧ u.run = false ∧ u.stopReason = .endstop ∧
      u.stopDir = s.desiredDir ∧ u.debCnt = 0

/-- Under the fairness of R141, a run whose every TICK samples the emergency stop asserted does not
keep the timer running. -/
def Obligations.FairEmergencyStopHalts : Prop :=
  ∀ (states : Nat → State) (steps : Nat → Instr), eventRun states steps → timerFair states steps →
    (∀ n e f, steps n = .tick e f → f = true) → ∀ n, ∃ m, n ≤ m ∧ (states m).run = false

/-! ### Input capture -/

/-- R184: BTN, a step only with capture enabled, ORs its samples into the bitset: a bit is set
afterwards exactly if it was set or is sampled as pressed, and nothing else changes. -/
def Obligations.BtnAccumulatesSamples : Prop :=
  (∀ (s : State) (b : Buttons), s.capEn = true → ∃ acc : Buttons,
    exec (.btn b) s = .next { s with btnAcc := acc, out := {} } ∧
    ∀ k : Nat, k < 6 → (acc.getLsbD k = true ↔ s.btnAcc.getLsbD k = true ∨ b.getLsbD k = true)) ∧
  (∀ (s : State) (b : Buttons), s.capEn = false → ∀ t, exec (.btn b) s ≠ .next t)

/-- R187, R192: ROT, a step only with capture enabled, counts only when the secondary line reads low:
plus one for the primary level that the polarity makes positive and minus one for the other, modulo
2^32 in two's complement, and nothing else changes. In a cycle without reset or command it happens
exactly when the synchronised secondary line has just changed (R186), with the levels after the edge. -/
def Obligations.RotCountsGatedEdges : Prop :=
  (∀ (s : State) (q p : Bool), s.capEn = true →
    exec (.rot q p) s = if q then .next { s with out := {} }
      else .next { s with out := {}, rotAcc := BitVec.ofInt 32 (s.rotAcc.toInt +
        (if p then 1 else -1) * s.cfg.rotPol.sign) }) ∧
  (∀ (s : State) (q p : Bool), s.capEn = false → ∀ t, exec (.rot q p) s ≠ .next t) ∧
  (∀ (p : Ports) (s : State), idlePorts p = true →
    (rotDue s = true ↔ s.capEn = true ∧ s.secS ≠ s.secP) ∧
    (cycle p s).rotAcc = s.rotAcc +
      (if s.capEn = true ∧ s.secP = true ∧ s.secS = false then
        (if s.priS = decide (s.cfg.rotPol = .plus) then 1 else -1) else 0))

/-- R190: button events between drains coalesce: after any list of samples the drain returns the
union of the samples and what was there, so two events that each assert a different button yield
both bits. -/
def Obligations.ButtonEventsCoalesce : Prop :=
  ∀ (s : State) (bs : List Buttons) (arg : Word), s.capEn = true →
    ∃ t, runSteps (bs.map .btn ++ [.drainButtons arg]) s = .next t ∧ t.btnAcc = 0 ∧
      ∀ k, k < 6 → (t.out.rspData.getLsbD k = true ↔
        s.btnAcc.getLsbD k = true ∨ ∃ b ∈ bs, b.getLsbD k = true)

/-- R62 for the rotary count, with P8: the responses of two drains add up, modulo 2^32, to all counts
since the register held its start value, and leave it 0. No count is lost and none is returned twice. -/
def Obligations.EveryRotaryCountDrainedOnce : Prop :=
  ∀ (s : State) (xs ys : List (Bool × Bool)) (a b : Word), s.capEn = true →
    ∃ t u, runSteps (xs.map (fun x => .rot x.1 x.2) ++ [.drainRotary a]) s = .next t ∧
      runSteps (ys.map (fun x => .rot x.1 x.2) ++ [.drainRotary b]) t = .next u ∧
      t.rotAcc = 0 ∧ u.rotAcc = 0 ∧
      t.out.rspData + u.out.rspData = BitVec.ofInt 32 (s.rotAcc.toInt +
        ((xs ++ ys).map (fun x : Bool × Bool => if x.1 then (0 : Int) else
          (if x.2 then 1 else -1) * s.cfg.rotPol.sign)).sum)

/-- R39: a BTN or ROT event commutes with every TICK and every timing-engine command, and a TICK
commutes with every drain, in every register (the response of the latest step aside). -/
def Obligations.CaptureCommutesWithTimingEngine : Prop :=
  (∀ (s t : State) (c i : Instr),
    ((∃ b, c = .btn b) ∨ (∃ q p, c = .rot q p)) →
    ((∃ e f, i = .tick e f) ∨ (∃ a, i = .initTimer a ∨ i = .reconfigure a ∨ i = .stop a ∨
        i = .clearStopReason a ∨ i = .getTimerCfg a ∨ i = .getStopReason a) ∨ (∃ g d, i = .setDir g d)) →
    ((∃ u, runSteps [c, i] s = .next u ∧ quiet u = quiet t) ↔
      (∃ u, runSteps [i, c] s = .next u ∧ quiet u = quiet t))) ∧
  (∀ (s t : State) (e f : Bool) (a : Word) (d : Instr), d = .drainButtons a ∨ d = .drainRotary a →
    ((∃ u, runSteps [.tick e f, d] s = .next u ∧ quiet u = quiet t) ↔
      (∃ u, runSteps [d, .tick e f] s = .next u ∧ quiet u = quiet t)))

/-! ### Frames -/

/-- R38: a step writes only the registers the table of R38 lists for it (RST writes all, R42). -/
def Obligations.OnlyListedRegistersWritten : Prop :=
  ∀ (i : Instr) (s t : State), exec i s = .next t →
    (writes .run i = false → t.run = s.run) ∧
    (writes .divSel i = false → t.divSel = s.divSel) ∧
    (writes .tickCount i = false → t.tickCount = s.tickCount) ∧
    (writes .stopReason i = false → t.stopReason = s.stopReason) ∧
    (writes .stopDir i = false → t.stopDir = s.stopDir) ∧
    (writes .debCnt i = false → t.debCnt = s.debCnt) ∧
    (writes .desiredDir i = false → t.desiredDir = s.desiredDir) ∧
    (writes .capEn i = false → t.capEn = s.capEn) ∧
    (writes .btnAcc i = false → t.btnAcc = s.btnAcc) ∧
    (writes .rotAcc i = false → t.rotAcc = s.rotAcc)

/-- The model's choice (log 4), not a rule: the spec gives the hidden registers no role at the event
level, and the model's event-level steps leave the synchronisers, the edge history and the settle
logic alone but for RST, `PSC` and `TCNT` but for INIT_TIMER, RECONFIGURE and RST, and `PW_CTR` but for
TICK and RST. That every step takes one entry off the schedule is the model's choice too (log 2); that
none changes the configuration is R63. -/
def Obligations.HiddenRegistersFrame : Prop :=
  (∀ (i : Instr) (s t : State), exec i s = .next t → i ≠ .rst →
    t.endM = s.endM ∧ t.endS = s.endS ∧ t.estM = s.estM ∧ t.estS = s.estS ∧ t.btnM = s.btnM ∧
    t.btnS = s.btnS ∧ t.btnP = s.btnP ∧ t.secM = s.secM ∧ t.secS = s.secS ∧ t.secP = s.secP ∧
    t.priM = s.priM ∧ t.priS = s.priS ∧ t.settleCtr = s.settleCtr ∧ t.btnPend = s.btnPend ∧
    ((∀ e f, i ≠ .tick e f) → t.pwCtr = s.pwCtr) ∧
    ((∀ a, i ≠ .initTimer a ∧ i ≠ .reconfigure a) → t.psc = s.psc ∧ t.tcnt = s.tcnt)) ∧
  (∀ s t : State, step s = .next t → t.cfg = s.cfg ∧ t.inputs = s.inputs.tail)

/-! ### Invariants -/

/-- R43: the invariants are kept by every step, event-level step or clock cycle, from every state
that has them. -/
def Obligations.StepKeepsInvariant : Prop :=
  ∀ s t : State, Invariants s → step s = .next t → Invariants t

/-- R43: the invariants hold after reset, whatever well-formed configuration the machine has. -/
def Obligations.ResetHasInvariant : Prop :=
  Invariants State.reset ∧ ∀ (c : Config) (ins : List Stimulus), Invariants (State.resetWith c ins)

/-! ### The cycle level -/

/-- R193: the cycle level refines the event level. The projection of any cycle-level run is an
event-level run that ends in the same architected registers. What a cycle contributes is written out,
in every state with the invariants: RST alone in a reset cycle; else its TICK, BTN and ROT, in the
order of R236, each under its condition and with its operands (R140, R154; R183, R184; R186, R187),
and its command where R237 orders it. The converse does not hold: two ROT with `q = 1` in a row are an
event-level run that no waveform produces. -/
def Obligations.CyclesRefineEventLevel : Prop :=
  (∀ (ps : List Ports) (s : State), ∃ t, runSteps (projectRun ps s) s = .next t ∧
    arch t = arch (runCycles ps s)) ∧
  (∀ (p : Ports) (s : State), Invariants s →
    let events : List Instr :=
      (if s.run = true ∧ s.psc.toNat + 1 = s.cfg.divisor s.divSel.toNat ∧
          s.tcnt.toNat + 1 = s.tickCount.toNat then [.tick s.endS s.estS] else []) ++
      (if s.capEn = true ∧ s.settleCtr = 1 then [.btn s.btnS] else []) ++
      (if s.capEn = true ∧ s.secS ≠ s.secP then [.rot s.secS s.priS] else [])
    (p.rst = true → projectRun [p] s = [.rst]) ∧
    (idlePorts p = true → projectRun [p] s = events) ∧
    (∀ i, p.rst = false → p.cmdValid = true → decodeCommand p.cmdWord = i →
      (∃ a, i = .nop a ∨ i = .getStopReason a ∨ i = .getStatus a ∨ i = .getTimerCfg a ∨
        i = .drainButtons a ∨ i = .drainRotary a ∨ i = .initInputs a) →
      projectRun [p] s = i :: events) ∧
    (∀ i, p.rst = false → p.cmdValid = true → decodeCommand p.cmdWord = i →
      ((∃ a, i = .initTimer a ∨ i = .reconfigure a ∨ i = .stop a ∨ i = .clearStopReason a) ∨
        (∃ g d, i = .setDir g d)) →
      projectRun [p] s = events ++ [i])) ∧
  (∀ (s : State) (p₁ p₂ : Bool), s.capEn = true →
    (∃ t, runSteps [.rot true p₁, .rot true p₂] s = .next t) ∧
    ∀ ps : List Ports, projectRun ps s ≠ [.rot true p₁, .rot true p₂])

/-- R140, R154, R183, R184, R186, R187: the events of a cycle without reset or command, each with its
condition and operands written out, and what each leaves in the registers. The TICK decides as exec
does on `END_S` and `EST_S` of the cycle, which are the port values of two cycles before; BTN ORs
`BTN_S` into what `BTN_ACC` holds; ROT counts with `SEC_S` and `PRI_S`. Without its event each register
keeps its value. That a BTN needs `CAP_EN = 1` also in a state that runs a settle delay with capture
disabled, which no run reaches, is log 11's. -/
def Obligations.CycleRunsSampledEvents : Prop :=
  (∀ (p : Ports) (s : State), idlePorts p = true →
    let ticks : Prop := s.run = true ∧ s.psc.toNat + 1 = s.cfg.divisor s.divSel.toNat ∧
      s.tcnt.toNat + 1 = s.tickCount.toNat
    let t := cycle p s
    (ticks → ∃ u, exec (.tick s.endS s.estS) s = .next u ∧ t.run = u.run ∧
      t.stopReason = u.stopReason ∧ t.stopDir = u.stopDir ∧ t.debCnt = u.debCnt ∧
      t.out.pulse = u.out.pulse ∧ (u.out.pulse = true → t.pwCtr = u.pwCtr)) ∧
    (¬ ticks → t.run = s.run ∧ t.stopReason = s.stopReason ∧ t.stopDir = s.stopDir ∧
      t.debCnt = s.debCnt ∧ t.out.pulse = false) ∧
    t.btnAcc = s.btnAcc ||| (if s.capEn = true ∧ s.settleCtr = 1 then s.btnS else 0) ∧
    (s.capEn = true ∧ s.secS ≠ s.secP →
      ∃ u, exec (.rot s.secS s.priS) s = .next u ∧ t.rotAcc = u.rotAcc) ∧
    (¬ (s.capEn = true ∧ s.secS ≠ s.secP) → t.rotAcc = s.rotAcc) ∧
    t.divSel = s.divSel ∧ t.tickCount = s.tickCount ∧ t.desiredDir = s.desiredDir ∧
    t.capEn = s.capEn) ∧
  (∀ (p₁ p₂ p : Ports) (s₀ : State), p₁.rst = false → p₂.rst = false → idlePorts p = true →
    let s := runCycles [p₁, p₂] s₀
    s.run = true → s.psc.toNat + 1 = s.cfg.divisor s.divSel.toNat →
    s.tcnt.toNat + 1 = s.tickCount.toNat →
    ∃ u, exec (.tick p₁.endstop p₁.estop) s = .next u ∧ (cycle p s).run = u.run ∧
      (cycle p s).stopReason = u.stopReason ∧ (cycle p s).stopDir = u.stopDir ∧
      (cycle p s).debCnt = u.debCnt ∧ (cycle p s).out.pulse = u.out.pulse)

/-- R140: with no reset and no command, the cycle whose phase completes `TICK_COUNT * DIV[DIV_SEL]`
has the TICK and starts the next period from zero; every other cycle advances the phase by one. -/
def Obligations.TimerPhaseAdvances : Prop :=
  ∀ (p : Ports) (s : State), Invariants s → s.run = true → idlePorts p = true →
    (tickDue s = true ↔ timerPhase s + 1 = comparePeriod s) ∧
    (cycle p s).divSel = s.divSel ∧ (cycle p s).tickCount = s.tickCount ∧
    timerPhase (cycle p s) = if tickDue s then 0 else timerPhase s + 1

/-- R140, R275, R276: counted from a cycle in which both counters are zero, the first TICK comes in
exactly the cycle that completes the compare period. -/
def Obligations.ComparePeriodIsExact : Prop :=
  ∀ (ps : List Ports) (s : State), Invariants s → s.run = true → s.psc = 0 → s.tcnt = 0 →
    ps.all idlePorts = true → ps.length < comparePeriod s →
    (tickDue (runCycles ps s) = true ↔ ps.length + 1 = comparePeriod s)

/-- R148: a cycle that emits PULSE loads the hold counter, every other cycle counts it down, and `step`
is then high for exactly `PW_CYCLES` cycles unless another pulse or a reset comes; no command or stop
shortens it. -/
def Obligations.PulseHoldsItsWidth : Prop :=
  (∀ (p : Ports) (s : State), (cycle p s).out.pulse = true →
    (cycle p s).pwCtr.toNat = ⌈(s.cfg.pwUs * s.cfg.fClkHz : ℚ) / 1000000⌉₊) ∧
  (∀ (p : Ports) (s : State), p.rst = false → (cycle p s).out.pulse = false →
    (cycle p s).pwCtr.toNat = s.pwCtr.toNat - 1) ∧
  (∀ s : State, stepPort s = true ↔ s.pwCtr ≠ 0) ∧
  (∀ (ps : List Ports) (s : State), s.pwCtr.toNat = s.cfg.pwCycles →
    (∀ p ∈ ps, p.rst = false) → noPulse ps s = true →
    (stepPort (runCycles ps s) = true ↔ ps.length < s.cfg.pwCycles))

/-- R149, R264: counted from a cycle in which both timer counters are zero, the next TICK finds `step`
low if the compare period is longer than the pulse; a pulse loaded in the cycle before finds it high
if the period is not longer. -/
def Obligations.PulsesStaySeparate : Prop :=
  ∀ (ps : List Ports) (s : State), Invariants s → s.run = true → s.psc = 0 → s.tcnt = 0 →
    ps.all idlePorts = true → ps.length + 1 = comparePeriod s →
    tickDue (runCycles ps s) = true ∧
    (pulseFits s → stepPort (runCycles ps s) = false) ∧
    (¬ pulseFits s → s.pwCtr.toNat = s.cfg.pwCycles → stepPort (runCycles ps s) = true)

/-- R183, over cycles without reset, whatever commands come meanwhile. An edge found with the settle
logic idle leads to a BTN event in exactly the `SETTLE_CYCLES`-th cycle after it, and to none before.
A delay that runs ends with one sample in its last cycle, `BTN_PEND` clear, and a further full delay
exactly if an edge was pending or came while it ran, its last cycle included, however many such edges
there were; so over that further time, if it brings no edge, there is exactly one more sample in the
one case and none in the other, and the logic is idle again. -/
def Obligations.SettleDelayIsExact : Prop :=
  (∀ (ps : List Ports) (s : State), s.settleCtr = 0 → btnEdge s = true →
    (∀ p ∈ ps, p.rst = false) → 0 < ps.length → ps.length ≤ s.cfg.settleCycles →
    (btnDue (runCycles ps s) = true ↔ ps.length = s.cfg.settleCycles)) ∧
  (∀ (ps : List Ports) (s : State), s.capEn = true → s.settleCtr ≠ 0 → (∀ p ∈ ps, p.rst = false) →
    ps.length = s.settleCtr.toNat →
    sampleCount ps s = 1 ∧ btnDue (runCycles ps.dropLast s) = true ∧
    (runCycles ps s).btnPend = false ∧ (runCycles ps s).settleCtr.toNat =
      if s.btnPend = true ∨ edgeSeen ps s = true then s.cfg.settleCycles else 0) ∧
  (∀ (ps qs : List Ports) (s : State), s.capEn = true → s.settleCtr ≠ 0 →
    (∀ p ∈ ps ++ qs, p.rst = false) → ps.length = s.settleCtr.toNat →
    qs.length = s.cfg.settleCycles → edgeSeen qs (runCycles ps s) = false →
    sampleCount (ps ++ qs) s = (if s.btnPend = true ∨ edgeSeen ps s = true then 2 else 1) ∧
    (runCycles (ps ++ qs) s).settleCtr = 0 ∧ (runCycles (ps ++ qs) s).btnPend = false)

/-- R181 (and R154 for the sensors): each cycle without reset shifts the synchronisers and the edge
history by one, whatever capture or command it has, so that the second flip-flops hold the port values
of two cycles before. -/
def Obligations.SynchronisersDelayTwoCycles : Prop :=
  (∀ (p : Ports) (s : State), p.rst = false →
    let t := cycle p s
    t.endM = p.endstop ∧ t.endS = s.endM ∧ t.estM = p.estop ∧ t.estS = s.estM ∧
    t.btnM = p.btn ∧ t.btnS = s.btnM ∧ t.btnP = s.btnS ∧
    t.secM = p.rotSec ∧ t.secS = s.secM ∧ t.secP = s.secS ∧ t.priM = p.rotPri ∧ t.priS = s.priM) ∧
  (∀ (p₁ p₂ : Ports) (s : State), p₁.rst = false → p₂.rst = false →
    let t := runCycles [p₁, p₂] s
    t.endS = p₁.endstop ∧ t.estS = p₁.estop ∧ t.btnS = p₁.btn ∧ t.secS = p₁.rotSec ∧ t.priS = p₁.rotPri)

/-- R237: a command and the events of its cycle; reset overrides both. The response comes from the registers as they are
during the cycle. (a) The reads, NOP and the drains act before the events, INIT_INPUTS too but without
enabling an edge of its own cycle; (b) the others are applied on top of the cycle's own result. -/
def Obligations.CommandOrderWithinCycle : Prop :=
  (∀ (p : Ports) (s : State), p.rst = true → exec .rst s = .next (cycle p s)) ∧
  ∀ (p : Ports) (s : State) (i : Instr), p.rst = false → p.cmdValid = true →
    decodeCommand p.cmdWord = i →
    (∃ u, exec i s = .next u ∧ (cycle p s).out.rspData = u.out.rspData ∧
      (cycle p s).out.rspErr = u.out.rspErr ∧
      ((∃ a, i = .nop a ∨ i = .getStopReason a ∨ i = .getStatus a ∨ i = .getTimerCfg a ∨
          i = .drainButtons a ∨ i = .drainRotary a) →
        quiet (cycle p s) = quiet (cycle { p with cmdValid := false } u))) ∧
    ((∃ a, i = .initInputs a) →
      quiet (cycle p s) = { quiet (cycle { p with cmdValid := false } s) with capEn := true }) ∧
    (((∃ a, i = .initTimer a ∨ i = .reconfigure a ∨ i = .stop a ∨ i = .clearStopReason a) ∨
        (∃ g d, i = .setDir g d)) →
      ∃ u, exec i (cycle { p with cmdValid := false } s) = .next u ∧
        quiet (cycle p s) = quiet u)

/-- R78: without a command both response ports are 0 and `cmd_word` is ignored. -/
def Obligations.NoCommandNoResponse : Prop :=
  ∀ (p : Ports) (s : State), p.cmdValid = false →
    (cycle p s).out.rspData = 0 ∧ (cycle p s).out.rspErr = false ∧
    ∀ w : CmdWord, cycle { p with cmdWord := w } s = cycle p s
end

