-- ==== Sys2Proof/Laws/State.lean ====
section
/-! SUPPORT. For each operation that updates registers, one lemma per field, true by rfl, so that no
proof unfolds a record update. -/

namespace Sys2Proof.Machine

variable (s : State)

/-! `drive` -/

@[simp] theorem drive_run (o : Outputs) : (drive o s).run = s.run := rfl
@[simp] theorem drive_divSel (o : Outputs) : (drive o s).divSel = s.divSel := rfl
@[simp] theorem drive_tickCount (o : Outputs) : (drive o s).tickCount = s.tickCount := rfl
@[simp] theorem drive_stopReason (o : Outputs) : (drive o s).stopReason = s.stopReason := rfl
@[simp] theorem drive_stopDir (o : Outputs) : (drive o s).stopDir = s.stopDir := rfl
@[simp] theorem drive_debCnt (o : Outputs) : (drive o s).debCnt = s.debCnt := rfl
@[simp] theorem drive_desiredDir (o : Outputs) : (drive o s).desiredDir = s.desiredDir := rfl
@[simp] theorem drive_capEn (o : Outputs) : (drive o s).capEn = s.capEn := rfl
@[simp] theorem drive_btnAcc (o : Outputs) : (drive o s).btnAcc = s.btnAcc := rfl
@[simp] theorem drive_rotAcc (o : Outputs) : (drive o s).rotAcc = s.rotAcc := rfl
@[simp] theorem drive_psc (o : Outputs) : (drive o s).psc = s.psc := rfl
@[simp] theorem drive_tcnt (o : Outputs) : (drive o s).tcnt = s.tcnt := rfl
@[simp] theorem drive_pwCtr (o : Outputs) : (drive o s).pwCtr = s.pwCtr := rfl
@[simp] theorem drive_endM (o : Outputs) : (drive o s).endM = s.endM := rfl
@[simp] theorem drive_endS (o : Outputs) : (drive o s).endS = s.endS := rfl
@[simp] theorem drive_estM (o : Outputs) : (drive o s).estM = s.estM := rfl
@[simp] theorem drive_estS (o : Outputs) : (drive o s).estS = s.estS := rfl
@[simp] theorem drive_btnM (o : Outputs) : (drive o s).btnM = s.btnM := rfl
@[simp] theorem drive_btnS (o : Outputs) : (drive o s).btnS = s.btnS := rfl
@[simp] theorem drive_btnP (o : Outputs) : (drive o s).btnP = s.btnP := rfl
@[simp] theorem drive_secM (o : Outputs) : (drive o s).secM = s.secM := rfl
@[simp] theorem drive_secS (o : Outputs) : (drive o s).secS = s.secS := rfl
@[simp] theorem drive_secP (o : Outputs) : (drive o s).secP = s.secP := rfl
@[simp] theorem drive_priM (o : Outputs) : (drive o s).priM = s.priM := rfl
@[simp] theorem drive_priS (o : Outputs) : (drive o s).priS = s.priS := rfl
@[simp] theorem drive_settleCtr (o : Outputs) : (drive o s).settleCtr = s.settleCtr := rfl
@[simp] theorem drive_btnPend (o : Outputs) : (drive o s).btnPend = s.btnPend := rfl
@[simp] theorem drive_out (o : Outputs) : (drive o s).out = o := rfl
@[simp] theorem drive_cfg (o : Outputs) : (drive o s).cfg = s.cfg := rfl
@[simp] theorem drive_inputs (o : Outputs) : (drive o s).inputs = s.inputs := rfl

/-! `stopTimer` -/

@[simp] theorem stopTimer_run : (stopTimer s).run = false := rfl
@[simp] theorem stopTimer_divSel : (stopTimer s).divSel = s.divSel := rfl
@[simp] theorem stopTimer_tickCount : (stopTimer s).tickCount = s.tickCount := rfl
@[simp] theorem stopTimer_stopReason : (stopTimer s).stopReason = s.stopReason := rfl
@[simp] theorem stopTimer_stopDir : (stopTimer s).stopDir = s.stopDir := rfl
@[simp] theorem stopTimer_debCnt : (stopTimer s).debCnt = s.debCnt := rfl
@[simp] theorem stopTimer_desiredDir : (stopTimer s).desiredDir = s.desiredDir := rfl
@[simp] theorem stopTimer_capEn : (stopTimer s).capEn = s.capEn := rfl
@[simp] theorem stopTimer_btnAcc : (stopTimer s).btnAcc = s.btnAcc := rfl
@[simp] theorem stopTimer_rotAcc : (stopTimer s).rotAcc = s.rotAcc := rfl
@[simp] theorem stopTimer_psc : (stopTimer s).psc = s.psc := rfl
@[simp] theorem stopTimer_tcnt : (stopTimer s).tcnt = s.tcnt := rfl
@[simp] theorem stopTimer_pwCtr : (stopTimer s).pwCtr = s.pwCtr := rfl
@[simp] theorem stopTimer_endM : (stopTimer s).endM = s.endM := rfl
@[simp] theorem stopTimer_endS : (stopTimer s).endS = s.endS := rfl
@[simp] theorem stopTimer_estM : (stopTimer s).estM = s.estM := rfl
@[simp] theorem stopTimer_estS : (stopTimer s).estS = s.estS := rfl
@[simp] theorem stopTimer_btnM : (stopTimer s).btnM = s.btnM := rfl
@[simp] theorem stopTimer_btnS : (stopTimer s).btnS = s.btnS := rfl
@[simp] theorem stopTimer_btnP : (stopTimer s).btnP = s.btnP := rfl
@[simp] theorem stopTimer_secM : (stopTimer s).secM = s.secM := rfl
@[simp] theorem stopTimer_secS : (stopTimer s).secS = s.secS := rfl
@[simp] theorem stopTimer_secP : (stopTimer s).secP = s.secP := rfl
@[simp] theorem stopTimer_priM : (stopTimer s).priM = s.priM := rfl
@[simp] theorem stopTimer_priS : (stopTimer s).priS = s.priS := rfl
@[simp] theorem stopTimer_settleCtr : (stopTimer s).settleCtr = s.settleCtr := rfl
@[simp] theorem stopTimer_btnPend : (stopTimer s).btnPend = s.btnPend := rfl
@[simp] theorem stopTimer_out : (stopTimer s).out = s.out := rfl
@[simp] theorem stopTimer_cfg : (stopTimer s).cfg = s.cfg := rfl
@[simp] theorem stopTimer_inputs : (stopTimer s).inputs = s.inputs := rfl

/-! `clearReason` -/

@[simp] theorem clearReason_run : (clearReason s).run = s.run := rfl
@[simp] theorem clearReason_divSel : (clearReason s).divSel = s.divSel := rfl
@[simp] theorem clearReason_tickCount : (clearReason s).tickCount = s.tickCount := rfl
@[simp] theorem clearReason_stopReason : (clearReason s).stopReason = .none := rfl
@[simp] theorem clearReason_stopDir : (clearReason s).stopDir = s.stopDir := rfl
@[simp] theorem clearReason_debCnt : (clearReason s).debCnt = s.debCnt := rfl
@[simp] theorem clearReason_desiredDir : (clearReason s).desiredDir = s.desiredDir := rfl
@[simp] theorem clearReason_capEn : (clearReason s).capEn = s.capEn := rfl
@[simp] theorem clearReason_btnAcc : (clearReason s).btnAcc = s.btnAcc := rfl
@[simp] theorem clearReason_rotAcc : (clearReason s).rotAcc = s.rotAcc := rfl
@[simp] theorem clearReason_psc : (clearReason s).psc = s.psc := rfl
@[simp] theorem clearReason_tcnt : (clearReason s).tcnt = s.tcnt := rfl
@[simp] theorem clearReason_pwCtr : (clearReason s).pwCtr = s.pwCtr := rfl
@[simp] theorem clearReason_endM : (clearReason s).endM = s.endM := rfl
@[simp] theorem clearReason_endS : (clearReason s).endS = s.endS := rfl
@[simp] theorem clearReason_estM : (clearReason s).estM = s.estM := rfl
@[simp] theorem clearReason_estS : (clearReason s).estS = s.estS := rfl
@[simp] theorem clearReason_btnM : (clearReason s).btnM = s.btnM := rfl
@[simp] theorem clearReason_btnS : (clearReason s).btnS = s.btnS := rfl
@[simp] theorem clearReason_btnP : (clearReason s).btnP = s.btnP := rfl
@[simp] theorem clearReason_secM : (clearReason s).secM = s.secM := rfl
@[simp] theorem clearReason_secS : (clearReason s).secS = s.secS := rfl
@[simp] theorem clearReason_secP : (clearReason s).secP = s.secP := rfl
@[simp] theorem clearReason_priM : (clearReason s).priM = s.priM := rfl
@[simp] theorem clearReason_priS : (clearReason s).priS = s.priS := rfl
@[simp] theorem clearReason_settleCtr : (clearReason s).settleCtr = s.settleCtr := rfl
@[simp] theorem clearReason_btnPend : (clearReason s).btnPend = s.btnPend := rfl
@[simp] theorem clearReason_out : (clearReason s).out = s.out := rfl
@[simp] theorem clearReason_cfg : (clearReason s).cfg = s.cfg := rfl
@[simp] theorem clearReason_inputs : (clearReason s).inputs = s.inputs := rfl

/-! `takeStop` -/

@[simp] theorem takeStop_run (r : StopReason) : (takeStop r s).run = false := rfl
@[simp] theorem takeStop_divSel (r : StopReason) : (takeStop r s).divSel = s.divSel := rfl
@[simp] theorem takeStop_tickCount (r : StopReason) : (takeStop r s).tickCount = s.tickCount := rfl
@[simp] theorem takeStop_stopReason (r : StopReason) : (takeStop r s).stopReason = r := rfl
@[simp] theorem takeStop_stopDir (r : StopReason) : (takeStop r s).stopDir = s.stopDir := rfl
@[simp] theorem takeStop_debCnt (r : StopReason) : (takeStop r s).debCnt = s.debCnt := rfl
@[simp] theorem takeStop_desiredDir (r : StopReason) : (takeStop r s).desiredDir = s.desiredDir := rfl
@[simp] theorem takeStop_capEn (r : StopReason) : (takeStop r s).capEn = s.capEn := rfl
@[simp] theorem takeStop_btnAcc (r : StopReason) : (takeStop r s).btnAcc = s.btnAcc := rfl
@[simp] theorem takeStop_rotAcc (r : StopReason) : (takeStop r s).rotAcc = s.rotAcc := rfl
@[simp] theorem takeStop_psc (r : StopReason) : (takeStop r s).psc = s.psc := rfl
@[simp] theorem takeStop_tcnt (r : StopReason) : (takeStop r s).tcnt = s.tcnt := rfl
@[simp] theorem takeStop_pwCtr (r : StopReason) : (takeStop r s).pwCtr = s.pwCtr := rfl
@[simp] theorem takeStop_endM (r : StopReason) : (takeStop r s).endM = s.endM := rfl
@[simp] theorem takeStop_endS (r : StopReason) : (takeStop r s).endS = s.endS := rfl
@[simp] theorem takeStop_estM (r : StopReason) : (takeStop r s).estM = s.estM := rfl
@[simp] theorem takeStop_estS (r : StopReason) : (takeStop r s).estS = s.estS := rfl
@[simp] theorem takeStop_btnM (r : StopReason) : (takeStop r s).btnM = s.btnM := rfl
@[simp] theorem takeStop_btnS (r : StopReason) : (takeStop r s).btnS = s.btnS := rfl
@[simp] theorem takeStop_btnP (r : StopReason) : (takeStop r s).btnP = s.btnP := rfl
@[simp] theorem takeStop_secM (r : StopReason) : (takeStop r s).secM = s.secM := rfl
@[simp] theorem takeStop_secS (r : StopReason) : (takeStop r s).secS = s.secS := rfl
@[simp] theorem takeStop_secP (r : StopReason) : (takeStop r s).secP = s.secP := rfl
@[simp] theorem takeStop_priM (r : StopReason) : (takeStop r s).priM = s.priM := rfl
@[simp] theorem takeStop_priS (r : StopReason) : (takeStop r s).priS = s.priS := rfl
@[simp] theorem takeStop_settleCtr (r : StopReason) : (takeStop r s).settleCtr = s.settleCtr := rfl
@[simp] theorem takeStop_btnPend (r : StopReason) : (takeStop r s).btnPend = s.btnPend := rfl
@[simp] theorem takeStop_out (r : StopReason) : (takeStop r s).out = silent := rfl
@[simp] theorem takeStop_cfg (r : StopReason) : (takeStop r s).cfg = s.cfg := rfl
@[simp] theorem takeStop_inputs (r : StopReason) : (takeStop r s).inputs = s.inputs := rfl

/-! `startTimer` -/

@[simp] theorem startTimer_run (i n : Nat) : (startTimer i n s).run = true := rfl
@[simp] theorem startTimer_divSel (i n : Nat) : (startTimer i n s).divSel = BitVec.ofNat 8 i := rfl
@[simp] theorem startTimer_tickCount (i n : Nat) : (startTimer i n s).tickCount = BitVec.ofNat 8 n := rfl
@[simp] theorem startTimer_stopReason (i n : Nat) : (startTimer i n s).stopReason = .none := rfl
@[simp] theorem startTimer_stopDir (i n : Nat) : (startTimer i n s).stopDir = s.stopDir := rfl
@[simp] theorem startTimer_debCnt (i n : Nat) : (startTimer i n s).debCnt = s.debCnt := rfl
@[simp] theorem startTimer_desiredDir (i n : Nat) : (startTimer i n s).desiredDir = s.desiredDir := rfl
@[simp] theorem startTimer_capEn (i n : Nat) : (startTimer i n s).capEn = s.capEn := rfl
@[simp] theorem startTimer_btnAcc (i n : Nat) : (startTimer i n s).btnAcc = s.btnAcc := rfl
@[simp] theorem startTimer_rotAcc (i n : Nat) : (startTimer i n s).rotAcc = s.rotAcc := rfl
@[simp] theorem startTimer_psc (i n : Nat) : (startTimer i n s).psc = 0 := rfl
@[simp] theorem startTimer_tcnt (i n : Nat) : (startTimer i n s).tcnt = 0 := rfl
@[simp] theorem startTimer_pwCtr (i n : Nat) : (startTimer i n s).pwCtr = s.pwCtr := rfl
@[simp] theorem startTimer_endM (i n : Nat) : (startTimer i n s).endM = s.endM := rfl
@[simp] theorem startTimer_endS (i n : Nat) : (startTimer i n s).endS = s.endS := rfl
@[simp] theorem startTimer_estM (i n : Nat) : (startTimer i n s).estM = s.estM := rfl
@[simp] theorem startTimer_estS (i n : Nat) : (startTimer i n s).estS = s.estS := rfl
@[simp] theorem startTimer_btnM (i n : Nat) : (startTimer i n s).btnM = s.btnM := rfl
@[simp] theorem startTimer_btnS (i n : Nat) : (startTimer i n s).btnS = s.btnS := rfl
@[simp] theorem startTimer_btnP (i n : Nat) : (startTimer i n s).btnP = s.btnP := rfl
@[simp] theorem startTimer_secM (i n : Nat) : (startTimer i n s).secM = s.secM := rfl
@[simp] theorem startTimer_secS (i n : Nat) : (startTimer i n s).secS = s.secS := rfl
@[simp] theorem startTimer_secP (i n : Nat) : (startTimer i n s).secP = s.secP := rfl
@[simp] theorem startTimer_priM (i n : Nat) : (startTimer i n s).priM = s.priM := rfl
@[simp] theorem startTimer_priS (i n : Nat) : (startTimer i n s).priS = s.priS := rfl
@[simp] theorem startTimer_settleCtr (i n : Nat) : (startTimer i n s).settleCtr = s.settleCtr := rfl
@[simp] theorem startTimer_btnPend (i n : Nat) : (startTimer i n s).btnPend = s.btnPend := rfl
@[simp] theorem startTimer_out (i n : Nat) : (startTimer i n s).out = s.out := rfl
@[simp] theorem startTimer_cfg (i n : Nat) : (startTimer i n s).cfg = s.cfg := rfl
@[simp] theorem startTimer_inputs (i n : Nat) : (startTimer i n s).inputs = s.inputs := rfl

/-! `emitPulse` -/

@[simp] theorem emitPulse_run : (emitPulse s).run = s.run := rfl
@[simp] theorem emitPulse_divSel : (emitPulse s).divSel = s.divSel := rfl
@[simp] theorem emitPulse_tickCount : (emitPulse s).tickCount = s.tickCount := rfl
@[simp] theorem emitPulse_stopReason : (emitPulse s).stopReason = s.stopReason := rfl
@[simp] theorem emitPulse_stopDir : (emitPulse s).stopDir = s.stopDir := rfl
@[simp] theorem emitPulse_debCnt : (emitPulse s).debCnt = s.debCnt := rfl
@[simp] theorem emitPulse_desiredDir : (emitPulse s).desiredDir = s.desiredDir := rfl
@[simp] theorem emitPulse_capEn : (emitPulse s).capEn = s.capEn := rfl
@[simp] theorem emitPulse_btnAcc : (emitPulse s).btnAcc = s.btnAcc := rfl
@[simp] theorem emitPulse_rotAcc : (emitPulse s).rotAcc = s.rotAcc := rfl
@[simp] theorem emitPulse_psc : (emitPulse s).psc = s.psc := rfl
@[simp] theorem emitPulse_tcnt : (emitPulse s).tcnt = s.tcnt := rfl
@[simp] theorem emitPulse_pwCtr : (emitPulse s).pwCtr = BitVec.ofNat 32 s.cfg.pwCycles := rfl
@[simp] theorem emitPulse_endM : (emitPulse s).endM = s.endM := rfl
@[simp] theorem emitPulse_endS : (emitPulse s).endS = s.endS := rfl
@[simp] theorem emitPulse_estM : (emitPulse s).estM = s.estM := rfl
@[simp] theorem emitPulse_estS : (emitPulse s).estS = s.estS := rfl
@[simp] theorem emitPulse_btnM : (emitPulse s).btnM = s.btnM := rfl
@[simp] theorem emitPulse_btnS : (emitPulse s).btnS = s.btnS := rfl
@[simp] theorem emitPulse_btnP : (emitPulse s).btnP = s.btnP := rfl
@[simp] theorem emitPulse_secM : (emitPulse s).secM = s.secM := rfl
@[simp] theorem emitPulse_secS : (emitPulse s).secS = s.secS := rfl
@[simp] theorem emitPulse_secP : (emitPulse s).secP = s.secP := rfl
@[simp] theorem emitPulse_priM : (emitPulse s).priM = s.priM := rfl
@[simp] theorem emitPulse_priS : (emitPulse s).priS = s.priS := rfl
@[simp] theorem emitPulse_settleCtr : (emitPulse s).settleCtr = s.settleCtr := rfl
@[simp] theorem emitPulse_btnPend : (emitPulse s).btnPend = s.btnPend := rfl
@[simp] theorem emitPulse_out : (emitPulse s).out = pulseOutput := rfl
@[simp] theorem emitPulse_cfg : (emitPulse s).cfg = s.cfg := rfl
@[simp] theorem emitPulse_inputs : (emitPulse s).inputs = s.inputs := rfl

/-! `initTimingEngine` -/

@[simp] theorem initTimingEngine_run : (initTimingEngine s).run = false := rfl
@[simp] theorem initTimingEngine_divSel : (initTimingEngine s).divSel = 0 := rfl
@[simp] theorem initTimingEngine_tickCount : (initTimingEngine s).tickCount = 0 := rfl
@[simp] theorem initTimingEngine_stopReason : (initTimingEngine s).stopReason = .none := rfl
@[simp] theorem initTimingEngine_stopDir : (initTimingEngine s).stopDir = .none := rfl
@[simp] theorem initTimingEngine_debCnt : (initTimingEngine s).debCnt = 0 := rfl
@[simp] theorem initTimingEngine_desiredDir : (initTimingEngine s).desiredDir = s.desiredDir := rfl
@[simp] theorem initTimingEngine_capEn : (initTimingEngine s).capEn = s.capEn := rfl
@[simp] theorem initTimingEngine_btnAcc : (initTimingEngine s).btnAcc = s.btnAcc := rfl
@[simp] theorem initTimingEngine_rotAcc : (initTimingEngine s).rotAcc = s.rotAcc := rfl
@[simp] theorem initTimingEngine_psc : (initTimingEngine s).psc = 0 := rfl
@[simp] theorem initTimingEngine_tcnt : (initTimingEngine s).tcnt = 0 := rfl
@[simp] theorem initTimingEngine_pwCtr : (initTimingEngine s).pwCtr = s.pwCtr := rfl
@[simp] theorem initTimingEngine_endM : (initTimingEngine s).endM = s.endM := rfl
@[simp] theorem initTimingEngine_endS : (initTimingEngine s).endS = s.endS := rfl
@[simp] theorem initTimingEngine_estM : (initTimingEngine s).estM = s.estM := rfl
@[simp] theorem initTimingEngine_estS : (initTimingEngine s).estS = s.estS := rfl
@[simp] theorem initTimingEngine_btnM : (initTimingEngine s).btnM = s.btnM := rfl
@[simp] theorem initTimingEngine_btnS : (initTimingEngine s).btnS = s.btnS := rfl
@[simp] theorem initTimingEngine_btnP : (initTimingEngine s).btnP = s.btnP := rfl
@[simp] theorem initTimingEngine_secM : (initTimingEngine s).secM = s.secM := rfl
@[simp] theorem initTimingEngine_secS : (initTimingEngine s).secS = s.secS := rfl
@[simp] theorem initTimingEngine_secP : (initTimingEngine s).secP = s.secP := rfl
@[simp] theorem initTimingEngine_priM : (initTimingEngine s).priM = s.priM := rfl
@[simp] theorem initTimingEngine_priS : (initTimingEngine s).priS = s.priS := rfl
@[simp] theorem initTimingEngine_settleCtr : (initTimingEngine s).settleCtr = s.settleCtr := rfl
@[simp] theorem initTimingEngine_btnPend : (initTimingEngine s).btnPend = s.btnPend := rfl
@[simp] theorem initTimingEngine_out : (initTimingEngine s).out = s.out := rfl
@[simp] theorem initTimingEngine_cfg : (initTimingEngine s).cfg = s.cfg := rfl
@[simp] theorem initTimingEngine_inputs : (initTimingEngine s).inputs = s.inputs := rfl

/-! `writeDebounce` -/

@[simp] theorem writeDebounce_run (l : Dir) (n : Nat) : (writeDebounce l n s).run = s.run := rfl
@[simp] theorem writeDebounce_divSel (l : Dir) (n : Nat) : (writeDebounce l n s).divSel = s.divSel := rfl
@[simp] theorem writeDebounce_tickCount (l : Dir) (n : Nat) : (writeDebounce l n s).tickCount = s.tickCount := rfl
@[simp] theorem writeDebounce_stopReason (l : Dir) (n : Nat) : (writeDebounce l n s).stopReason = s.stopReason := rfl
@[simp] theorem writeDebounce_stopDir (l : Dir) (n : Nat) : (writeDebounce l n s).stopDir = l := rfl
@[simp] theorem writeDebounce_debCnt (l : Dir) (n : Nat) : (writeDebounce l n s).debCnt = BitVec.ofNat 16 n := rfl
@[simp] theorem writeDebounce_desiredDir (l : Dir) (n : Nat) : (writeDebounce l n s).desiredDir = s.desiredDir := rfl
@[simp] theorem writeDebounce_capEn (l : Dir) (n : Nat) : (writeDebounce l n s).capEn = s.capEn := rfl
@[simp] theorem writeDebounce_btnAcc (l : Dir) (n : Nat) : (writeDebounce l n s).btnAcc = s.btnAcc := rfl
@[simp] theorem writeDebounce_rotAcc (l : Dir) (n : Nat) : (writeDebounce l n s).rotAcc = s.rotAcc := rfl
@[simp] theorem writeDebounce_psc (l : Dir) (n : Nat) : (writeDebounce l n s).psc = s.psc := rfl
@[simp] theorem writeDebounce_tcnt (l : Dir) (n : Nat) : (writeDebounce l n s).tcnt = s.tcnt := rfl
@[simp] theorem writeDebounce_pwCtr (l : Dir) (n : Nat) : (writeDebounce l n s).pwCtr = s.pwCtr := rfl
@[simp] theorem writeDebounce_endM (l : Dir) (n : Nat) : (writeDebounce l n s).endM = s.endM := rfl
@[simp] theorem writeDebounce_endS (l : Dir) (n : Nat) : (writeDebounce l n s).endS = s.endS := rfl
@[simp] theorem writeDebounce_estM (l : Dir) (n : Nat) : (writeDebounce l n s).estM = s.estM := rfl
@[simp] theorem writeDebounce_estS (l : Dir) (n : Nat) : (writeDebounce l n s).estS = s.estS := rfl
@[simp] theorem writeDebounce_btnM (l : Dir) (n : Nat) : (writeDebounce l n s).btnM = s.btnM := rfl
@[simp] theorem writeDebounce_btnS (l : Dir) (n : Nat) : (writeDebounce l n s).btnS = s.btnS := rfl
@[simp] theorem writeDebounce_btnP (l : Dir) (n : Nat) : (writeDebounce l n s).btnP = s.btnP := rfl
@[simp] theorem writeDebounce_secM (l : Dir) (n : Nat) : (writeDebounce l n s).secM = s.secM := rfl
@[simp] theorem writeDebounce_secS (l : Dir) (n : Nat) : (writeDebounce l n s).secS = s.secS := rfl
@[simp] theorem writeDebounce_secP (l : Dir) (n : Nat) : (writeDebounce l n s).secP = s.secP := rfl
@[simp] theorem writeDebounce_priM (l : Dir) (n : Nat) : (writeDebounce l n s).priM = s.priM := rfl
@[simp] theorem writeDebounce_priS (l : Dir) (n : Nat) : (writeDebounce l n s).priS = s.priS := rfl
@[simp] theorem writeDebounce_settleCtr (l : Dir) (n : Nat) : (writeDebounce l n s).settleCtr = s.settleCtr := rfl
@[simp] theorem writeDebounce_btnPend (l : Dir) (n : Nat) : (writeDebounce l n s).btnPend = s.btnPend := rfl
@[simp] theorem writeDebounce_out (l : Dir) (n : Nat) : (writeDebounce l n s).out = s.out := rfl
@[simp] theorem writeDebounce_cfg (l : Dir) (n : Nat) : (writeDebounce l n s).cfg = s.cfg := rfl
@[simp] theorem writeDebounce_inputs (l : Dir) (n : Nat) : (writeDebounce l n s).inputs = s.inputs := rfl

/-! `setDesired` -/

@[simp] theorem setDesired_run (d : Dir) : (setDesired d s).run = s.run := rfl
@[simp] theorem setDesired_divSel (d : Dir) : (setDesired d s).divSel = s.divSel := rfl
@[simp] theorem setDesired_tickCount (d : Dir) : (setDesired d s).tickCount = s.tickCount := rfl
@[simp] theorem setDesired_stopReason (d : Dir) : (setDesired d s).stopReason = s.stopReason := rfl
@[simp] theorem setDesired_stopDir (d : Dir) : (setDesired d s).stopDir = s.stopDir := rfl
@[simp] theorem setDesired_debCnt (d : Dir) : (setDesired d s).debCnt = s.debCnt := rfl
@[simp] theorem setDesired_desiredDir (d : Dir) : (setDesired d s).desiredDir = d := rfl
@[simp] theorem setDesired_capEn (d : Dir) : (setDesired d s).capEn = s.capEn := rfl
@[simp] theorem setDesired_btnAcc (d : Dir) : (setDesired d s).btnAcc = s.btnAcc := rfl
@[simp] theorem setDesired_rotAcc (d : Dir) : (setDesired d s).rotAcc = s.rotAcc := rfl
@[simp] theorem setDesired_psc (d : Dir) : (setDesired d s).psc = s.psc := rfl
@[simp] theorem setDesired_tcnt (d : Dir) : (setDesired d s).tcnt = s.tcnt := rfl
@[simp] theorem setDesired_pwCtr (d : Dir) : (setDesired d s).pwCtr = s.pwCtr := rfl
@[simp] theorem setDesired_endM (d : Dir) : (setDesired d s).endM = s.endM := rfl
@[simp] theorem setDesired_endS (d : Dir) : (setDesired d s).endS = s.endS := rfl
@[simp] theorem setDesired_estM (d : Dir) : (setDesired d s).estM = s.estM := rfl
@[simp] theorem setDesired_estS (d : Dir) : (setDesired d s).estS = s.estS := rfl
@[simp] theorem setDesired_btnM (d : Dir) : (setDesired d s).btnM = s.btnM := rfl
@[simp] theorem setDesired_btnS (d : Dir) : (setDesired d s).btnS = s.btnS := rfl
@[simp] theorem setDesired_btnP (d : Dir) : (setDesired d s).btnP = s.btnP := rfl
@[simp] theorem setDesired_secM (d : Dir) : (setDesired d s).secM = s.secM := rfl
@[simp] theorem setDesired_secS (d : Dir) : (setDesired d s).secS = s.secS := rfl
@[simp] theorem setDesired_secP (d : Dir) : (setDesired d s).secP = s.secP := rfl
@[simp] theorem setDesired_priM (d : Dir) : (setDesired d s).priM = s.priM := rfl
@[simp] theorem setDesired_priS (d : Dir) : (setDesired d s).priS = s.priS := rfl
@[simp] theorem setDesired_settleCtr (d : Dir) : (setDesired d s).settleCtr = s.settleCtr := rfl
@[simp] theorem setDesired_btnPend (d : Dir) : (setDesired d s).btnPend = s.btnPend := rfl
@[simp] theorem setDesired_out (d : Dir) : (setDesired d s).out = s.out := rfl
@[simp] theorem setDesired_cfg (d : Dir) : (setDesired d s).cfg = s.cfg := rfl
@[simp] theorem setDesired_inputs (d : Dir) : (setDesired d s).inputs = s.inputs := rfl

/-! `enableCapture` -/

@[simp] theorem enableCapture_run : (enableCapture s).run = s.run := rfl
@[simp] theorem enableCapture_divSel : (enableCapture s).divSel = s.divSel := rfl
@[simp] theorem enableCapture_tickCount : (enableCapture s).tickCount = s.tickCount := rfl
@[simp] theorem enableCapture_stopReason : (enableCapture s).stopReason = s.stopReason := rfl
@[simp] theorem enableCapture_stopDir : (enableCapture s).stopDir = s.stopDir := rfl
@[simp] theorem enableCapture_debCnt : (enableCapture s).debCnt = s.debCnt := rfl
@[simp] theorem enableCapture_desiredDir : (enableCapture s).desiredDir = s.desiredDir := rfl
@[simp] theorem enableCapture_capEn : (enableCapture s).capEn = true := rfl
@[simp] theorem enableCapture_btnAcc : (enableCapture s).btnAcc = s.btnAcc := rfl
@[simp] theorem enableCapture_rotAcc : (enableCapture s).rotAcc = s.rotAcc := rfl
@[simp] theorem enableCapture_psc : (enableCapture s).psc = s.psc := rfl
@[simp] theorem enableCapture_tcnt : (enableCapture s).tcnt = s.tcnt := rfl
@[simp] theorem enableCapture_pwCtr : (enableCapture s).pwCtr = s.pwCtr := rfl
@[simp] theorem enableCapture_endM : (enableCapture s).endM = s.endM := rfl
@[simp] theorem enableCapture_endS : (enableCapture s).endS = s.endS := rfl
@[simp] theorem enableCapture_estM : (enableCapture s).estM = s.estM := rfl
@[simp] theorem enableCapture_estS : (enableCapture s).estS = s.estS := rfl
@[simp] theorem enableCapture_btnM : (enableCapture s).btnM = s.btnM := rfl
@[simp] theorem enableCapture_btnS : (enableCapture s).btnS = s.btnS := rfl
@[simp] theorem enableCapture_btnP : (enableCapture s).btnP = s.btnP := rfl
@[simp] theorem enableCapture_secM : (enableCapture s).secM = s.secM := rfl
@[simp] theorem enableCapture_secS : (enableCapture s).secS = s.secS := rfl
@[simp] theorem enableCapture_secP : (enableCapture s).secP = s.secP := rfl
@[simp] theorem enableCapture_priM : (enableCapture s).priM = s.priM := rfl
@[simp] theorem enableCapture_priS : (enableCapture s).priS = s.priS := rfl
@[simp] theorem enableCapture_settleCtr : (enableCapture s).settleCtr = s.settleCtr := rfl
@[simp] theorem enableCapture_btnPend : (enableCapture s).btnPend = s.btnPend := rfl
@[simp] theorem enableCapture_out : (enableCapture s).out = s.out := rfl
@[simp] theorem enableCapture_cfg : (enableCapture s).cfg = s.cfg := rfl
@[simp] theorem enableCapture_inputs : (enableCapture s).inputs = s.inputs := rfl

/-! `clearButtons` -/

@[simp] theorem clearButtons_run : (clearButtons s).run = s.run := rfl
@[simp] theorem clearButtons_divSel : (clearButtons s).divSel = s.divSel := rfl
@[simp] theorem clearButtons_tickCount : (clearButtons s).tickCount = s.tickCount := rfl
@[simp] theorem clearButtons_stopReason : (clearButtons s).stopReason = s.stopReason := rfl
@[simp] theorem clearButtons_stopDir : (clearButtons s).stopDir = s.stopDir := rfl
@[simp] theorem clearButtons_debCnt : (clearButtons s).debCnt = s.debCnt := rfl
@[simp] theorem clearButtons_desiredDir : (clearButtons s).desiredDir = s.desiredDir := rfl
@[simp] theorem clearButtons_capEn : (clearButtons s).capEn = s.capEn := rfl
@[simp] theorem clearButtons_btnAcc : (clearButtons s).btnAcc = 0 := rfl
@[simp] theorem clearButtons_rotAcc : (clearButtons s).rotAcc = s.rotAcc := rfl
@[simp] theorem clearButtons_psc : (clearButtons s).psc = s.psc := rfl
@[simp] theorem clearButtons_tcnt : (clearButtons s).tcnt = s.tcnt := rfl
@[simp] theorem clearButtons_pwCtr : (clearButtons s).pwCtr = s.pwCtr := rfl
@[simp] theorem clearButtons_endM : (clearButtons s).endM = s.endM := rfl
@[simp] theorem clearButtons_endS : (clearButtons s).endS = s.endS := rfl
@[simp] theorem clearButtons_estM : (clearButtons s).estM = s.estM := rfl
@[simp] theorem clearButtons_estS : (clearButtons s).estS = s.estS := rfl
@[simp] theorem clearButtons_btnM : (clearButtons s).btnM = s.btnM := rfl
@[simp] theorem clearButtons_btnS : (clearButtons s).btnS = s.btnS := rfl
@[simp] theorem clearButtons_btnP : (clearButtons s).btnP = s.btnP := rfl
@[simp] theorem clearButtons_secM : (clearButtons s).secM = s.secM := rfl
@[simp] theorem clearButtons_secS : (clearButtons s).secS = s.secS := rfl
@[simp] theorem clearButtons_secP : (clearButtons s).secP = s.secP := rfl
@[simp] theorem clearButtons_priM : (clearButtons s).priM = s.priM := rfl
@[simp] theorem clearButtons_priS : (clearButtons s).priS = s.priS := rfl
@[simp] theorem clearButtons_settleCtr : (clearButtons s).settleCtr = s.settleCtr := rfl
@[simp] theorem clearButtons_btnPend : (clearButtons s).btnPend = s.btnPend := rfl
@[simp] theorem clearButtons_out : (clearButtons s).out = s.out := rfl
@[simp] theorem clearButtons_cfg : (clearButtons s).cfg = s.cfg := rfl
@[simp] theorem clearButtons_inputs : (clearButtons s).inputs = s.inputs := rfl

/-! `clearRotary` -/

@[simp] theorem clearRotary_run : (clearRotary s).run = s.run := rfl
@[simp] theorem clearRotary_divSel : (clearRotary s).divSel = s.divSel := rfl
@[simp] theorem clearRotary_tickCount : (clearRotary s).tickCount = s.tickCount := rfl
@[simp] theorem clearRotary_stopReason : (clearRotary s).stopReason = s.stopReason := rfl
@[simp] theorem clearRotary_stopDir : (clearRotary s).stopDir = s.stopDir := rfl
@[simp] theorem clearRotary_debCnt : (clearRotary s).debCnt = s.debCnt := rfl
@[simp] theorem clearRotary_desiredDir : (clearRotary s).desiredDir = s.desiredDir := rfl
@[simp] theorem clearRotary_capEn : (clearRotary s).capEn = s.capEn := rfl
@[simp] theorem clearRotary_btnAcc : (clearRotary s).btnAcc = s.btnAcc := rfl
@[simp] theorem clearRotary_rotAcc : (clearRotary s).rotAcc = 0 := rfl
@[simp] theorem clearRotary_psc : (clearRotary s).psc = s.psc := rfl
@[simp] theorem clearRotary_tcnt : (clearRotary s).tcnt = s.tcnt := rfl
@[simp] theorem clearRotary_pwCtr : (clearRotary s).pwCtr = s.pwCtr := rfl
@[simp] theorem clearRotary_endM : (clearRotary s).endM = s.endM := rfl
@[simp] theorem clearRotary_endS : (clearRotary s).endS = s.endS := rfl
@[simp] theorem clearRotary_estM : (clearRotary s).estM = s.estM := rfl
@[simp] theorem clearRotary_estS : (clearRotary s).estS = s.estS := rfl
@[simp] theorem clearRotary_btnM : (clearRotary s).btnM = s.btnM := rfl
@[simp] theorem clearRotary_btnS : (clearRotary s).btnS = s.btnS := rfl
@[simp] theorem clearRotary_btnP : (clearRotary s).btnP = s.btnP := rfl
@[simp] theorem clearRotary_secM : (clearRotary s).secM = s.secM := rfl
@[simp] theorem clearRotary_secS : (clearRotary s).secS = s.secS := rfl
@[simp] theorem clearRotary_secP : (clearRotary s).secP = s.secP := rfl
@[simp] theorem clearRotary_priM : (clearRotary s).priM = s.priM := rfl
@[simp] theorem clearRotary_priS : (clearRotary s).priS = s.priS := rfl
@[simp] theorem clearRotary_settleCtr : (clearRotary s).settleCtr = s.settleCtr := rfl
@[simp] theorem clearRotary_btnPend : (clearRotary s).btnPend = s.btnPend := rfl
@[simp] theorem clearRotary_out : (clearRotary s).out = s.out := rfl
@[simp] theorem clearRotary_cfg : (clearRotary s).cfg = s.cfg := rfl
@[simp] theorem clearRotary_inputs : (clearRotary s).inputs = s.inputs := rfl

/-! `accumulateButtons` -/

@[simp] theorem accumulateButtons_run (b : Buttons) : (accumulateButtons b s).run = s.run := rfl
@[simp] theorem accumulateButtons_divSel (b : Buttons) : (accumulateButtons b s).divSel = s.divSel := rfl
@[simp] theorem accumulateButtons_tickCount (b : Buttons) : (accumulateButtons b s).tickCount = s.tickCount := rfl
@[simp] theorem accumulateButtons_stopReason (b : Buttons) : (accumulateButtons b s).stopReason = s.stopReason := rfl
@[simp] theorem accumulateButtons_stopDir (b : Buttons) : (accumulateButtons b s).stopDir = s.stopDir := rfl
@[simp] theorem accumulateButtons_debCnt (b : Buttons) : (accumulateButtons b s).debCnt = s.debCnt := rfl
@[simp] theorem accumulateButtons_desiredDir (b : Buttons) : (accumulateButtons b s).desiredDir = s.desiredDir := rfl
@[simp] theorem accumulateButtons_capEn (b : Buttons) : (accumulateButtons b s).capEn = s.capEn := rfl
@[simp] theorem accumulateButtons_btnAcc (b : Buttons) : (accumulateButtons b s).btnAcc = s.btnAcc ||| b := rfl
@[simp] theorem accumulateButtons_rotAcc (b : Buttons) : (accumulateButtons b s).rotAcc = s.rotAcc := rfl
@[simp] theorem accumulateButtons_psc (b : Buttons) : (accumulateButtons b s).psc = s.psc := rfl
@[simp] theorem accumulateButtons_tcnt (b : Buttons) : (accumulateButtons b s).tcnt = s.tcnt := rfl
@[simp] theorem accumulateButtons_pwCtr (b : Buttons) : (accumulateButtons b s).pwCtr = s.pwCtr := rfl
@[simp] theorem accumulateButtons_endM (b : Buttons) : (accumulateButtons b s).endM = s.endM := rfl
@[simp] theorem accumulateButtons_endS (b : Buttons) : (accumulateButtons b s).endS = s.endS := rfl
@[simp] theorem accumulateButtons_estM (b : Buttons) : (accumulateButtons b s).estM = s.estM := rfl
@[simp] theorem accumulateButtons_estS (b : Buttons) : (accumulateButtons b s).estS = s.estS := rfl
@[simp] theorem accumulateButtons_btnM (b : Buttons) : (accumulateButtons b s).btnM = s.btnM := rfl
@[simp] theorem accumulateButtons_btnS (b : Buttons) : (accumulateButtons b s).btnS = s.btnS := rfl
@[simp] theorem accumulateButtons_btnP (b : Buttons) : (accumulateButtons b s).btnP = s.btnP := rfl
@[simp] theorem accumulateButtons_secM (b : Buttons) : (accumulateButtons b s).secM = s.secM := rfl
@[simp] theorem accumulateButtons_secS (b : Buttons) : (accumulateButtons b s).secS = s.secS := rfl
@[simp] theorem accumulateButtons_secP (b : Buttons) : (accumulateButtons b s).secP = s.secP := rfl
@[simp] theorem accumulateButtons_priM (b : Buttons) : (accumulateButtons b s).priM = s.priM := rfl
@[simp] theorem accumulateButtons_priS (b : Buttons) : (accumulateButtons b s).priS = s.priS := rfl
@[simp] theorem accumulateButtons_settleCtr (b : Buttons) : (accumulateButtons b s).settleCtr = s.settleCtr := rfl
@[simp] theorem accumulateButtons_btnPend (b : Buttons) : (accumulateButtons b s).btnPend = s.btnPend := rfl
@[simp] theorem accumulateButtons_out (b : Buttons) : (accumulateButtons b s).out = s.out := rfl
@[simp] theorem accumulateButtons_cfg (b : Buttons) : (accumulateButtons b s).cfg = s.cfg := rfl
@[simp] theorem accumulateButtons_inputs (b : Buttons) : (accumulateButtons b s).inputs = s.inputs := rfl

/-! `accumulateRotary` -/

@[simp] theorem accumulateRotary_run (q p : Bool) : (accumulateRotary q p s).run = s.run := rfl
@[simp] theorem accumulateRotary_divSel (q p : Bool) : (accumulateRotary q p s).divSel = s.divSel := rfl
@[simp] theorem accumulateRotary_tickCount (q p : Bool) : (accumulateRotary q p s).tickCount = s.tickCount := rfl
@[simp] theorem accumulateRotary_stopReason (q p : Bool) : (accumulateRotary q p s).stopReason = s.stopReason := rfl
@[simp] theorem accumulateRotary_stopDir (q p : Bool) : (accumulateRotary q p s).stopDir = s.stopDir := rfl
@[simp] theorem accumulateRotary_debCnt (q p : Bool) : (accumulateRotary q p s).debCnt = s.debCnt := rfl
@[simp] theorem accumulateRotary_desiredDir (q p : Bool) : (accumulateRotary q p s).desiredDir = s.desiredDir := rfl
@[simp] theorem accumulateRotary_capEn (q p : Bool) : (accumulateRotary q p s).capEn = s.capEn := rfl
@[simp] theorem accumulateRotary_btnAcc (q p : Bool) : (accumulateRotary q p s).btnAcc = s.btnAcc := rfl
@[simp] theorem accumulateRotary_rotAcc (q p : Bool) : (accumulateRotary q p s).rotAcc = s.rotAcc + rotaryDelta s.cfg.rotPol q p := rfl
@[simp] theorem accumulateRotary_psc (q p : Bool) : (accumulateRotary q p s).psc = s.psc := rfl
@[simp] theorem accumulateRotary_tcnt (q p : Bool) : (accumulateRotary q p s).tcnt = s.tcnt := rfl
@[simp] theorem accumulateRotary_pwCtr (q p : Bool) : (accumulateRotary q p s).pwCtr = s.pwCtr := rfl
@[simp] theorem accumulateRotary_endM (q p : Bool) : (accumulateRotary q p s).endM = s.endM := rfl
@[simp] theorem accumulateRotary_endS (q p : Bool) : (accumulateRotary q p s).endS = s.endS := rfl
@[simp] theorem accumulateRotary_estM (q p : Bool) : (accumulateRotary q p s).estM = s.estM := rfl
@[simp] theorem accumulateRotary_estS (q p : Bool) : (accumulateRotary q p s).estS = s.estS := rfl
@[simp] theorem accumulateRotary_btnM (q p : Bool) : (accumulateRotary q p s).btnM = s.btnM := rfl
@[simp] theorem accumulateRotary_btnS (q p : Bool) : (accumulateRotary q p s).btnS = s.btnS := rfl
@[simp] theorem accumulateRotary_btnP (q p : Bool) : (accumulateRotary q p s).btnP = s.btnP := rfl
@[simp] theorem accumulateRotary_secM (q p : Bool) : (accumulateRotary q p s).secM = s.secM := rfl
@[simp] theorem accumulateRotary_secS (q p : Bool) : (accumulateRotary q p s).secS = s.secS := rfl
@[simp] theorem accumulateRotary_secP (q p : Bool) : (accumulateRotary q p s).secP = s.secP := rfl
@[simp] theorem accumulateRotary_priM (q p : Bool) : (accumulateRotary q p s).priM = s.priM := rfl
@[simp] theorem accumulateRotary_priS (q p : Bool) : (accumulateRotary q p s).priS = s.priS := rfl
@[simp] theorem accumulateRotary_settleCtr (q p : Bool) : (accumulateRotary q p s).settleCtr = s.settleCtr := rfl
@[simp] theorem accumulateRotary_btnPend (q p : Bool) : (accumulateRotary q p s).btnPend = s.btnPend := rfl
@[simp] theorem accumulateRotary_out (q p : Bool) : (accumulateRotary q p s).out = s.out := rfl
@[simp] theorem accumulateRotary_cfg (q p : Bool) : (accumulateRotary q p s).cfg = s.cfg := rfl
@[simp] theorem accumulateRotary_inputs (q p : Bool) : (accumulateRotary q p s).inputs = s.inputs := rfl

/-! `advanceSync` -/

@[simp] theorem advanceSync_run (x : Ports) : (advanceSync x s).run = s.run := rfl
@[simp] theorem advanceSync_divSel (x : Ports) : (advanceSync x s).divSel = s.divSel := rfl
@[simp] theorem advanceSync_tickCount (x : Ports) : (advanceSync x s).tickCount = s.tickCount := rfl
@[simp] theorem advanceSync_stopReason (x : Ports) : (advanceSync x s).stopReason = s.stopReason := rfl
@[simp] theorem advanceSync_stopDir (x : Ports) : (advanceSync x s).stopDir = s.stopDir := rfl
@[simp] theorem advanceSync_debCnt (x : Ports) : (advanceSync x s).debCnt = s.debCnt := rfl
@[simp] theorem advanceSync_desiredDir (x : Ports) : (advanceSync x s).desiredDir = s.desiredDir := rfl
@[simp] theorem advanceSync_capEn (x : Ports) : (advanceSync x s).capEn = s.capEn := rfl
@[simp] theorem advanceSync_btnAcc (x : Ports) : (advanceSync x s).btnAcc = s.btnAcc := rfl
@[simp] theorem advanceSync_rotAcc (x : Ports) : (advanceSync x s).rotAcc = s.rotAcc := rfl
@[simp] theorem advanceSync_psc (x : Ports) : (advanceSync x s).psc = s.psc := rfl
@[simp] theorem advanceSync_tcnt (x : Ports) : (advanceSync x s).tcnt = s.tcnt := rfl
@[simp] theorem advanceSync_pwCtr (x : Ports) : (advanceSync x s).pwCtr = s.pwCtr := rfl
@[simp] theorem advanceSync_endM (x : Ports) : (advanceSync x s).endM = x.endstop := rfl
@[simp] theorem advanceSync_endS (x : Ports) : (advanceSync x s).endS = s.endM := rfl
@[simp] theorem advanceSync_estM (x : Ports) : (advanceSync x s).estM = x.estop := rfl
@[simp] theorem advanceSync_estS (x : Ports) : (advanceSync x s).estS = s.estM := rfl
@[simp] theorem advanceSync_btnM (x : Ports) : (advanceSync x s).btnM = x.btn := rfl
@[simp] theorem advanceSync_btnS (x : Ports) : (advanceSync x s).btnS = s.btnM := rfl
@[simp] theorem advanceSync_btnP (x : Ports) : (advanceSync x s).btnP = s.btnS := rfl
@[simp] theorem advanceSync_secM (x : Ports) : (advanceSync x s).secM = x.rotSec := rfl
@[simp] theorem advanceSync_secS (x : Ports) : (advanceSync x s).secS = s.secM := rfl
@[simp] theorem advanceSync_secP (x : Ports) : (advanceSync x s).secP = s.secS := rfl
@[simp] theorem advanceSync_priM (x : Ports) : (advanceSync x s).priM = x.rotPri := rfl
@[simp] theorem advanceSync_priS (x : Ports) : (advanceSync x s).priS = s.priM := rfl
@[simp] theorem advanceSync_settleCtr (x : Ports) : (advanceSync x s).settleCtr = s.settleCtr := rfl
@[simp] theorem advanceSync_btnPend (x : Ports) : (advanceSync x s).btnPend = s.btnPend := rfl
@[simp] theorem advanceSync_out (x : Ports) : (advanceSync x s).out = s.out := rfl
@[simp] theorem advanceSync_cfg (x : Ports) : (advanceSync x s).cfg = s.cfg := rfl
@[simp] theorem advanceSync_inputs (x : Ports) : (advanceSync x s).inputs = s.inputs := rfl

end Sys2Proof.Machine
end

