-- ==== Sys2Proof/Laws/Exec.lean ====
section
/-! SUPPORT. What each shared operation and each step can do, said once. A proof about a step cites
these and the field lemmas of Laws/State.lean. -/

namespace Sys2Proof.Machine

/-- What a step does never depends on what the step before it put out. -/
theorem exec_drive (i : Instr) (o : Outputs) (s : State) : exec i (drive o s) = exec i s := by
  cases i <;> rfl

@[simp] theorem drive_drive (o o' : Outputs) (s : State) : drive o (drive o' s) = drive o s := rfl

@[simp] theorem arch_drive (o : Outputs) (s : State) : arch (drive o s) = arch s := rfl

/-- A step of a cycle, once the step is known to complete. -/
theorem applyStep_of_next {i : Instr} {s t : State} (h : exec i s = .next t) : applyStep s i = t := by
  simp [applyStep, h]

/-- TICK as a step of a cycle. -/
theorem applyStep_tick (e f : Bool) (s : State) :
    applyStep s (.tick e f) = if s.run then tickDecision e f s else s := by
  cases h : s.run <;> simp [applyStep, exec, execTick, h]

/-- BTN as a step of a cycle. -/
theorem applyStep_btn (b : Buttons) (s : State) :
    applyStep s (.btn b) = if s.capEn then drive silent (accumulateButtons b s) else s := by
  cases h : s.capEn <;> simp [applyStep, exec, execBtn, h]

/-- ROT as a step of a cycle. -/
theorem applyStep_rot (q p : Bool) (s : State) :
    applyStep s (.rot q p) = if s.capEn then drive silent (accumulateRotary q p s) else s := by
  cases h : s.capEn <;> simp [applyStep, exec, execRot, h]

/-- A step of a cycle from states that differ in `out` only ends in states that differ in `out` only. -/
theorem drive_applyStep_drive (i : Instr) (o o' : Outputs) (s : State) :
    drive o (applyStep (drive o' s) i) = drive o (applyStep s i) := by
  simp only [applyStep, exec_drive]
  cases exec i s <;> rfl

/-- The same for a list of steps. -/
theorem drive_foldl_drive (is : List Instr) (o o' : Outputs) (s : State) :
    drive o (is.foldl applyStep (drive o' s)) = drive o (is.foldl applyStep s) := by
  induction is generalizing o' s with
  | nil => rfl
  | cons i is ih =>
    simp only [List.foldl_cons, applyStep, exec_drive]
    cases exec i s <;> simp [ih]

/-- A step completes exactly when it is enabled. -/
theorem exec_next_of_enabled {i : Instr} {s : State} (h : enabled i s = true) :
    exec i s = .next (applyStep s i) := by
  have next : ∀ t, exec i s = .next t → exec i s = .next (applyStep s i) := fun t ht => by
    rw [applyStep_of_next ht, ht]
  cases i with
  | tick e f => exact next _ (if_pos h)
  | btn b => exact next _ (if_pos h)
  | rot q p => exact next _ (if_pos h)
  | _ => exact next _ rfl

/-- A step that completes was enabled. -/
theorem enabled_of_exec_next {i : Instr} {s t : State} (h : exec i s = .next t) : enabled i s = true := by
  cases i with
  | tick e f => by_contra hn; simp_all [exec, execTick, enabled]
  | btn b => by_contra hn; simp_all [exec, execBtn, enabled]
  | rot q p => by_contra hn; simp_all [exec, execRot, enabled]
  | _ => rfl

/-- Everything a TICK can do (R142), with its count and latch named: stop at the threshold, stop for
the emergency input, or pulse. The latch and the count are written in every case. -/
theorem tickDecision_cases (e f : Bool) (s : State) :
    let count := debounceCount e s
    let atThreshold := count = s.cfg.threshold
    let written := writeDebounce (if atThreshold then latchedDir s else .none) (if atThreshold then 0 else count) s
    (atThreshold ∧ stillObstructed s = true ∧ tickDecision e f s = takeStop .endstop written) ∨
    (¬ (atThreshold ∧ stillObstructed s = true) ∧ f = true ∧
      tickDecision e f s = takeStop .emergencyStop written) ∨
    (¬ (atThreshold ∧ stillObstructed s = true) ∧ f = false ∧ tickDecision e f s = emitPulse written) := by
  by_cases h : debounceCount e s = s.cfg.threshold <;> by_cases h2 : stillObstructed s = true <;>
    cases f <;> simp [tickDecision, estopOrPulse, h, h2]

/-- Everything RECONFIGURE can do (R111): stop with success for rate 0, stop with one of the two
failures, or program and start. -/
theorem reconfigureTo_cases (rate : Nat) (s : State) :
    (rate = 0 ∧ reconfigureTo rate s = drive (response rspOk) (clearReason (stopTimer s))) ∨
    (rate ≠ 0 ∧ decodeRate s.cfg rate = .tooFast ∧
      reconfigureTo rate s = drive (response rspTooFast) (stopTimer s)) ∨
    (rate ≠ 0 ∧ decodeRate s.cfg rate = .tooSlow ∧
      reconfigureTo rate s = drive (response rspTooSlow) (stopTimer s)) ∨
    (∃ i n, rate ≠ 0 ∧ decodeRate s.cfg rate = .program i n ∧
      reconfigureTo rate s = drive (response rspOk) (startTimer i n s)) := by
  by_cases h : rate = 0
  · exact .inl ⟨h, by simp [reconfigureTo, h]⟩
  · cases hd : decodeRate s.cfg rate <;> simp [reconfigureTo, applyRate, h, hd]

/-- Everything SET_DIR can do (R150). -/
theorem execSetDir_cases (ignored : BitVec 30) (d : BitVec 2) (s : State) :
    (d = 3 ∧ execSetDir ignored d s = .next (drive errorResponse s)) ∨
    (∃ dir, dirOfCode d = some dir ∧ dirCode dir = d ∧
      execSetDir ignored d s = .next (drive (response 0) (setDesired dir s))) := by
  have : d = 0 ∨ d = 1 ∨ d = 2 ∨ d = 3 := by revert d; decide
  rcases this with rfl | rfl | rfl | rfl
  · exact .inr ⟨.none, rfl, rfl, rfl⟩
  · exact .inr ⟨.cw, rfl, rfl, rfl⟩
  · exact .inr ⟨.ccw, rfl, rfl, rfl⟩
  · exact .inl ⟨rfl, rfl⟩

section
variable (s : State)

/-! The frame of a TICK. -/

@[simp] theorem tickDecision_divSel (e f : Bool) : (tickDecision e f s).divSel = s.divSel := by
  rcases tickDecision_cases e f s with ⟨_, _, h⟩ | ⟨_, _, h⟩ | ⟨_, _, h⟩ <;> simp [h]
@[simp] theorem tickDecision_tickCount (e f : Bool) : (tickDecision e f s).tickCount = s.tickCount := by
  rcases tickDecision_cases e f s with ⟨_, _, h⟩ | ⟨_, _, h⟩ | ⟨_, _, h⟩ <;> simp [h]
@[simp] theorem tickDecision_desiredDir (e f : Bool) : (tickDecision e f s).desiredDir = s.desiredDir := by
  rcases tickDecision_cases e f s with ⟨_, _, h⟩ | ⟨_, _, h⟩ | ⟨_, _, h⟩ <;> simp [h]
@[simp] theorem tickDecision_capEn (e f : Bool) : (tickDecision e f s).capEn = s.capEn := by
  rcases tickDecision_cases e f s with ⟨_, _, h⟩ | ⟨_, _, h⟩ | ⟨_, _, h⟩ <;> simp [h]
@[simp] theorem tickDecision_btnAcc (e f : Bool) : (tickDecision e f s).btnAcc = s.btnAcc := by
  rcases tickDecision_cases e f s with ⟨_, _, h⟩ | ⟨_, _, h⟩ | ⟨_, _, h⟩ <;> simp [h]
@[simp] theorem tickDecision_rotAcc (e f : Bool) : (tickDecision e f s).rotAcc = s.rotAcc := by
  rcases tickDecision_cases e f s with ⟨_, _, h⟩ | ⟨_, _, h⟩ | ⟨_, _, h⟩ <;> simp [h]
@[simp] theorem tickDecision_psc (e f : Bool) : (tickDecision e f s).psc = s.psc := by
  rcases tickDecision_cases e f s with ⟨_, _, h⟩ | ⟨_, _, h⟩ | ⟨_, _, h⟩ <;> simp [h]
@[simp] theorem tickDecision_tcnt (e f : Bool) : (tickDecision e f s).tcnt = s.tcnt := by
  rcases tickDecision_cases e f s with ⟨_, _, h⟩ | ⟨_, _, h⟩ | ⟨_, _, h⟩ <;> simp [h]
@[simp] theorem tickDecision_endM (e f : Bool) : (tickDecision e f s).endM = s.endM := by
  rcases tickDecision_cases e f s with ⟨_, _, h⟩ | ⟨_, _, h⟩ | ⟨_, _, h⟩ <;> simp [h]
@[simp] theorem tickDecision_endS (e f : Bool) : (tickDecision e f s).endS = s.endS := by
  rcases tickDecision_cases e f s with ⟨_, _, h⟩ | ⟨_, _, h⟩ | ⟨_, _, h⟩ <;> simp [h]
@[simp] theorem tickDecision_estM (e f : Bool) : (tickDecision e f s).estM = s.estM := by
  rcases tickDecision_cases e f s with ⟨_, _, h⟩ | ⟨_, _, h⟩ | ⟨_, _, h⟩ <;> simp [h]
@[simp] theorem tickDecision_estS (e f : Bool) : (tickDecision e f s).estS = s.estS := by
  rcases tickDecision_cases e f s with ⟨_, _, h⟩ | ⟨_, _, h⟩ | ⟨_, _, h⟩ <;> simp [h]
@[simp] theorem tickDecision_btnM (e f : Bool) : (tickDecision e f s).btnM = s.btnM := by
  rcases tickDecision_cases e f s with ⟨_, _, h⟩ | ⟨_, _, h⟩ | ⟨_, _, h⟩ <;> simp [h]
@[simp] theorem tickDecision_btnS (e f : Bool) : (tickDecision e f s).btnS = s.btnS := by
  rcases tickDecision_cases e f s with ⟨_, _, h⟩ | ⟨_, _, h⟩ | ⟨_, _, h⟩ <;> simp [h]
@[simp] theorem tickDecision_btnP (e f : Bool) : (tickDecision e f s).btnP = s.btnP := by
  rcases tickDecision_cases e f s with ⟨_, _, h⟩ | ⟨_, _, h⟩ | ⟨_, _, h⟩ <;> simp [h]
@[simp] theorem tickDecision_secM (e f : Bool) : (tickDecision e f s).secM = s.secM := by
  rcases tickDecision_cases e f s with ⟨_, _, h⟩ | ⟨_, _, h⟩ | ⟨_, _, h⟩ <;> simp [h]
@[simp] theorem tickDecision_secS (e f : Bool) : (tickDecision e f s).secS = s.secS := by
  rcases tickDecision_cases e f s with ⟨_, _, h⟩ | ⟨_, _, h⟩ | ⟨_, _, h⟩ <;> simp [h]
@[simp] theorem tickDecision_secP (e f : Bool) : (tickDecision e f s).secP = s.secP := by
  rcases tickDecision_cases e f s with ⟨_, _, h⟩ | ⟨_, _, h⟩ | ⟨_, _, h⟩ <;> simp [h]
@[simp] theorem tickDecision_priM (e f : Bool) : (tickDecision e f s).priM = s.priM := by
  rcases tickDecision_cases e f s with ⟨_, _, h⟩ | ⟨_, _, h⟩ | ⟨_, _, h⟩ <;> simp [h]
@[simp] theorem tickDecision_priS (e f : Bool) : (tickDecision e f s).priS = s.priS := by
  rcases tickDecision_cases e f s with ⟨_, _, h⟩ | ⟨_, _, h⟩ | ⟨_, _, h⟩ <;> simp [h]
@[simp] theorem tickDecision_settleCtr (e f : Bool) : (tickDecision e f s).settleCtr = s.settleCtr := by
  rcases tickDecision_cases e f s with ⟨_, _, h⟩ | ⟨_, _, h⟩ | ⟨_, _, h⟩ <;> simp [h]
@[simp] theorem tickDecision_btnPend (e f : Bool) : (tickDecision e f s).btnPend = s.btnPend := by
  rcases tickDecision_cases e f s with ⟨_, _, h⟩ | ⟨_, _, h⟩ | ⟨_, _, h⟩ <;> simp [h]
@[simp] theorem tickDecision_cfg (e f : Bool) : (tickDecision e f s).cfg = s.cfg := by
  rcases tickDecision_cases e f s with ⟨_, _, h⟩ | ⟨_, _, h⟩ | ⟨_, _, h⟩ <;> simp [h]
@[simp] theorem tickDecision_inputs (e f : Bool) : (tickDecision e f s).inputs = s.inputs := by
  rcases tickDecision_cases e f s with ⟨_, _, h⟩ | ⟨_, _, h⟩ | ⟨_, _, h⟩ <;> simp [h]

/-! The frame of RECONFIGURE. -/

@[simp] theorem reconfigureTo_stopDir (rate : Nat) : (reconfigureTo rate s).stopDir = s.stopDir := by
  rcases reconfigureTo_cases rate s with ⟨_, h⟩ | ⟨_, _, h⟩ | ⟨_, _, h⟩ | ⟨_, _, _, _, h⟩ <;> simp [h]
@[simp] theorem reconfigureTo_debCnt (rate : Nat) : (reconfigureTo rate s).debCnt = s.debCnt := by
  rcases reconfigureTo_cases rate s with ⟨_, h⟩ | ⟨_, _, h⟩ | ⟨_, _, h⟩ | ⟨_, _, _, _, h⟩ <;> simp [h]
@[simp] theorem reconfigureTo_desiredDir (rate : Nat) : (reconfigureTo rate s).desiredDir = s.desiredDir := by
  rcases reconfigureTo_cases rate s with ⟨_, h⟩ | ⟨_, _, h⟩ | ⟨_, _, h⟩ | ⟨_, _, _, _, h⟩ <;> simp [h]
@[simp] theorem reconfigureTo_capEn (rate : Nat) : (reconfigureTo rate s).capEn = s.capEn := by
  rcases reconfigureTo_cases rate s with ⟨_, h⟩ | ⟨_, _, h⟩ | ⟨_, _, h⟩ | ⟨_, _, _, _, h⟩ <;> simp [h]
@[simp] theorem reconfigureTo_btnAcc (rate : Nat) : (reconfigureTo rate s).btnAcc = s.btnAcc := by
  rcases reconfigureTo_cases rate s with ⟨_, h⟩ | ⟨_, _, h⟩ | ⟨_, _, h⟩ | ⟨_, _, _, _, h⟩ <;> simp [h]
@[simp] theorem reconfigureTo_rotAcc (rate : Nat) : (reconfigureTo rate s).rotAcc = s.rotAcc := by
  rcases reconfigureTo_cases rate s with ⟨_, h⟩ | ⟨_, _, h⟩ | ⟨_, _, h⟩ | ⟨_, _, _, _, h⟩ <;> simp [h]
@[simp] theorem reconfigureTo_pwCtr (rate : Nat) : (reconfigureTo rate s).pwCtr = s.pwCtr := by
  rcases reconfigureTo_cases rate s with ⟨_, h⟩ | ⟨_, _, h⟩ | ⟨_, _, h⟩ | ⟨_, _, _, _, h⟩ <;> simp [h]
@[simp] theorem reconfigureTo_endM (rate : Nat) : (reconfigureTo rate s).endM = s.endM := by
  rcases reconfigureTo_cases rate s with ⟨_, h⟩ | ⟨_, _, h⟩ | ⟨_, _, h⟩ | ⟨_, _, _, _, h⟩ <;> simp [h]
@[simp] theorem reconfigureTo_endS (rate : Nat) : (reconfigureTo rate s).endS = s.endS := by
  rcases reconfigureTo_cases rate s with ⟨_, h⟩ | ⟨_, _, h⟩ | ⟨_, _, h⟩ | ⟨_, _, _, _, h⟩ <;> simp [h]
@[simp] theorem reconfigureTo_estM (rate : Nat) : (reconfigureTo rate s).estM = s.estM := by
  rcases reconfigureTo_cases rate s with ⟨_, h⟩ | ⟨_, _, h⟩ | ⟨_, _, h⟩ | ⟨_, _, _, _, h⟩ <;> simp [h]
@[simp] theorem reconfigureTo_estS (rate : Nat) : (reconfigureTo rate s).estS = s.estS := by
  rcases reconfigureTo_cases rate s with ⟨_, h⟩ | ⟨_, _, h⟩ | ⟨_, _, h⟩ | ⟨_, _, _, _, h⟩ <;> simp [h]
@[simp] theorem reconfigureTo_btnM (rate : Nat) : (reconfigureTo rate s).btnM = s.btnM := by
  rcases reconfigureTo_cases rate s with ⟨_, h⟩ | ⟨_, _, h⟩ | ⟨_, _, h⟩ | ⟨_, _, _, _, h⟩ <;> simp [h]
@[simp] theorem reconfigureTo_btnS (rate : Nat) : (reconfigureTo rate s).btnS = s.btnS := by
  rcases reconfigureTo_cases rate s with ⟨_, h⟩ | ⟨_, _, h⟩ | ⟨_, _, h⟩ | ⟨_, _, _, _, h⟩ <;> simp [h]
@[simp] theorem reconfigureTo_btnP (rate : Nat) : (reconfigureTo rate s).btnP = s.btnP := by
  rcases reconfigureTo_cases rate s with ⟨_, h⟩ | ⟨_, _, h⟩ | ⟨_, _, h⟩ | ⟨_, _, _, _, h⟩ <;> simp [h]
@[simp] theorem reconfigureTo_secM (rate : Nat) : (reconfigureTo rate s).secM = s.secM := by
  rcases reconfigureTo_cases rate s with ⟨_, h⟩ | ⟨_, _, h⟩ | ⟨_, _, h⟩ | ⟨_, _, _, _, h⟩ <;> simp [h]
@[simp] theorem reconfigureTo_secS (rate : Nat) : (reconfigureTo rate s).secS = s.secS := by
  rcases reconfigureTo_cases rate s with ⟨_, h⟩ | ⟨_, _, h⟩ | ⟨_, _, h⟩ | ⟨_, _, _, _, h⟩ <;> simp [h]
@[simp] theorem reconfigureTo_secP (rate : Nat) : (reconfigureTo rate s).secP = s.secP := by
  rcases reconfigureTo_cases rate s with ⟨_, h⟩ | ⟨_, _, h⟩ | ⟨_, _, h⟩ | ⟨_, _, _, _, h⟩ <;> simp [h]
@[simp] theorem reconfigureTo_priM (rate : Nat) : (reconfigureTo rate s).priM = s.priM := by
  rcases reconfigureTo_cases rate s with ⟨_, h⟩ | ⟨_, _, h⟩ | ⟨_, _, h⟩ | ⟨_, _, _, _, h⟩ <;> simp [h]
@[simp] theorem reconfigureTo_priS (rate : Nat) : (reconfigureTo rate s).priS = s.priS := by
  rcases reconfigureTo_cases rate s with ⟨_, h⟩ | ⟨_, _, h⟩ | ⟨_, _, h⟩ | ⟨_, _, _, _, h⟩ <;> simp [h]
@[simp] theorem reconfigureTo_settleCtr (rate : Nat) : (reconfigureTo rate s).settleCtr = s.settleCtr := by
  rcases reconfigureTo_cases rate s with ⟨_, h⟩ | ⟨_, _, h⟩ | ⟨_, _, h⟩ | ⟨_, _, _, _, h⟩ <;> simp [h]
@[simp] theorem reconfigureTo_btnPend (rate : Nat) : (reconfigureTo rate s).btnPend = s.btnPend := by
  rcases reconfigureTo_cases rate s with ⟨_, h⟩ | ⟨_, _, h⟩ | ⟨_, _, h⟩ | ⟨_, _, _, _, h⟩ <;> simp [h]
@[simp] theorem reconfigureTo_cfg (rate : Nat) : (reconfigureTo rate s).cfg = s.cfg := by
  rcases reconfigureTo_cases rate s with ⟨_, h⟩ | ⟨_, _, h⟩ | ⟨_, _, h⟩ | ⟨_, _, _, _, h⟩ <;> simp [h]
@[simp] theorem reconfigureTo_inputs (rate : Nat) : (reconfigureTo rate s).inputs = s.inputs := by
  rcases reconfigureTo_cases rate s with ⟨_, h⟩ | ⟨_, _, h⟩ | ⟨_, _, h⟩ | ⟨_, _, _, _, h⟩ <;> simp [h]

end

/-! The tick logic reads no capture register. -/

section
variable (s : State)
@[simp] theorem debounceCount_accumulateButtons (e : Bool) (b : Buttons) : debounceCount e (accumulateButtons b s) = debounceCount e s := rfl
@[simp] theorem latchedDir_accumulateButtons (b : Buttons) : latchedDir (accumulateButtons b s) = latchedDir s := rfl
@[simp] theorem stillObstructed_accumulateButtons (b : Buttons) : stillObstructed (accumulateButtons b s) = stillObstructed s := rfl
@[simp] theorem debounceCount_accumulateRotary (e : Bool) (q p : Bool) : debounceCount e (accumulateRotary q p s) = debounceCount e s := rfl
@[simp] theorem latchedDir_accumulateRotary (q p : Bool) : latchedDir (accumulateRotary q p s) = latchedDir s := rfl
@[simp] theorem stillObstructed_accumulateRotary (q p : Bool) : stillObstructed (accumulateRotary q p s) = stillObstructed s := rfl
@[simp] theorem debounceCount_clearButtons (e : Bool) : debounceCount e (clearButtons s) = debounceCount e s := rfl
@[simp] theorem latchedDir_clearButtons : latchedDir (clearButtons s) = latchedDir s := rfl
@[simp] theorem stillObstructed_clearButtons : stillObstructed (clearButtons s) = stillObstructed s := rfl
@[simp] theorem debounceCount_clearRotary (e : Bool) : debounceCount e (clearRotary s) = debounceCount e s := rfl
@[simp] theorem latchedDir_clearRotary : latchedDir (clearRotary s) = latchedDir s := rfl
@[simp] theorem stillObstructed_clearRotary : stillObstructed (clearRotary s) = stillObstructed s := rfl
theorem tickDecision_accumulateButtons (e f : Bool) (b : Buttons) : tickDecision e f (accumulateButtons b s) = accumulateButtons b (tickDecision e f s) := by
  by_cases h : debounceCount e s = s.cfg.threshold <;> cases h2 : stillObstructed s <;> cases f <;>
    simp [tickDecision, estopOrPulse, h, h2] <;> rfl
theorem tickDecision_accumulateRotary (e f : Bool) (q p : Bool) : tickDecision e f (accumulateRotary q p s) = accumulateRotary q p (tickDecision e f s) := by
  by_cases h : debounceCount e s = s.cfg.threshold <;> cases h2 : stillObstructed s <;> cases f <;>
    simp [tickDecision, estopOrPulse, h, h2] <;> rfl
theorem tickDecision_clearButtons (e f : Bool) : tickDecision e f (clearButtons s) = clearButtons (tickDecision e f s) := by
  by_cases h : debounceCount e s = s.cfg.threshold <;> cases h2 : stillObstructed s <;> cases f <;>
    simp [tickDecision, estopOrPulse, h, h2] <;> rfl
theorem tickDecision_clearRotary (e f : Bool) : tickDecision e f (clearRotary s) = clearRotary (tickDecision e f s) := by
  by_cases h : debounceCount e s = s.cfg.threshold <;> cases h2 : stillObstructed s <;> cases f <;>
    simp [tickDecision, estopOrPulse, h, h2] <;> rfl
end

/-- What a ROT adds, as an integer modulo 2^32 (R187, R192). -/
theorem rotaryDelta_eq (pol : Polarity) (q p : Bool) :
    rotaryDelta pol q p = BitVec.ofInt 32 (if q then 0 else (if p then 1 else -1) * pol.sign) := by
  cases q <;> cases p <;> cases pol <;> rfl

/-- Every step keeps the configuration (R63). -/
theorem exec_cfg {i : Instr} {s t : State} (h : exec i s = .next t) : t.cfg = s.cfg := by
  have key := applyStep_of_next h
  have he := enabled_of_exec_next h
  subst key
  cases i with
  | setDir g d =>
    rcases execSetDir_cases g d s with ⟨_, h⟩ | ⟨_, _, _, h⟩ <;> simp [applyStep, exec, h]
  | tick e f => simp [enabled] at he; simp [applyStep, exec, execTick, he]
  | btn b => simp [enabled] at he; simp [applyStep, exec, execBtn, he]
  | rot q p => simp [enabled] at he; simp [applyStep, exec, execRot, he]
  | reconfigure r => exact reconfigureTo_cfg _ _
  | _ => rfl

/-- The same in a cycle's list of steps. -/
@[simp] theorem applyStep_cfg (s : State) (i : Instr) : (applyStep s i).cfg = s.cfg := by
  cases h : exec i s with
  | next t => rw [applyStep_of_next h, exec_cfg h]
  | fault r => simp [applyStep, h]
  | refused r => simp [applyStep, h]

@[simp] theorem foldl_applyStep_cfg (is : List Instr) (s : State) :
    (is.foldl applyStep s).cfg = s.cfg := by
  induction is generalizing s with
  | nil => rfl
  | cons i is ih => simp [ih]

/-- What no shared operation but reset changes, no step but RST changes. -/
theorem applyStep_frame {α : Sort _} (f : State → α)
    (tick : ∀ e g u, f (tickDecision e g u) = f u) (rate : ∀ r u, f (reconfigureTo r u) = f u)
    (dir : ∀ d u, f (setDesired d u) = f u) (init : ∀ u, f (initTimingEngine u) = f u)
    (stop : ∀ u, f (stopTimer u) = f u) (reason : ∀ u, f (clearReason u) = f u)
    (capture : ∀ u, f (enableCapture u) = f u) (buttons : ∀ u, f (clearButtons u) = f u)
    (rotary : ∀ u, f (clearRotary u) = f u) (press : ∀ b u, f (accumulateButtons b u) = f u)
    (turn : ∀ q p u, f (accumulateRotary q p u) = f u) (out : ∀ o u, f (drive o u) = f u)
    (i : Instr) (s : State) (hr : i ≠ .rst) : f (applyStep s i) = f s := by
  cases i with
  | tick e g => rw [applyStep_tick]; split <;> simp only [tick]
  | btn b => rw [applyStep_btn]; split <;> simp only [out, press]
  | rot q p => rw [applyStep_rot]; split <;> simp only [out, turn]
  | reconfigure r => exact rate _ _
  | setDir g d =>
    rcases execSetDir_cases g d s with ⟨_, h⟩ | ⟨_, _, _, h⟩ <;> simp only [applyStep, exec, h, out, dir]
  | rst => exact absurd rfl hr
  | initTimer _ => exact (out _ _).trans (init _)
  | stop _ => exact (out _ _).trans (stop _)
  | clearStopReason _ => exact (out _ _).trans (reason _)
  | initInputs _ => exact (out _ _).trans (capture _)
  | drainButtons _ => exact (out _ _).trans (buttons _)
  | drainRotary _ => exact (out _ _).trans (rotary _)
  | _ => exact out _ _

/-- No step but RST disables capture (R180). -/
theorem applyStep_capEn {i : Instr} {s : State} (hi : i ≠ .rst) (h : s.capEn = true) :
    (applyStep s i).capEn = true := by
  cases i with
  | tick e f => rw [applyStep_tick]; split <;> simp [h]
  | btn b => rw [applyStep_btn]; split <;> simp [h]
  | rot q p => rw [applyStep_rot]; split <;> simp [h]
  | reconfigure r => exact (reconfigureTo_capEn _ _).trans h
  | setDir g d =>
    rcases execSetDir_cases g d s with ⟨_, e⟩ | ⟨_, _, _, e⟩ <;> simp only [applyStep, exec, e] <;> exact h
  | rst => exact absurd rfl hi
  | initInputs => rfl
  | _ => exact h

/-- An event-level run in two parts. -/
theorem runSteps_append (as bs : List Instr) {s t : State} (h : runSteps as s = .next t) :
    runSteps (as ++ bs) s = runSteps bs t := by
  induction as generalizing s with
  | nil => simp only [runSteps, Host.Outcome.next.injEq] at h; simp [h]
  | cons i as ih =>
    simp only [runSteps, List.cons_append] at *
    cases he : exec i s <;> simp only [he] at h ⊢
    · exact ih h
    · cases h
    · cases h

/-! What a step does to the architected registers depends on them and the configuration alone. -/

theorem arch_tickDecision_congr (e f : Bool) {s t : State} (h : arch s = arch t) (hc : s.cfg = t.cfg) :
    arch (tickDecision e f s) = arch (tickDecision e f t) := by
  simp only [arch, Arch.mk.injEq] at h
  have d : debounceCount e s = debounceCount e t := by simp [debounceCount, h]
  have l : latchedDir s = latchedDir t := by simp [latchedDir, h]
  have o : stillObstructed s = stillObstructed t := by simp [stillObstructed, l, hc, h]
  unfold tickDecision
  rw [d, l, o, hc]
  split <;> (try split) <;> cases f <;> simp [estopOrPulse, arch, h]

theorem arch_reconfigureTo_congr (r : Nat) {s t : State} (h : arch s = arch t) (hc : s.cfg = t.cfg) :
    arch (reconfigureTo r s) = arch (reconfigureTo r t) := by
  simp only [arch, Arch.mk.injEq] at h
  unfold reconfigureTo
  rw [hc]
  split
  · simp [arch, h]
  · cases decodeRate t.cfg r <;> simp [applyRate, arch, h]

theorem arch_applyStep_congr (i : Instr) {s t : State} (h : arch s = arch t) (hc : s.cfg = t.cfg) :
    arch (applyStep s i) = arch (applyStep t i) := by
  have h' := h
  simp only [arch, Arch.mk.injEq] at h'
  cases i with
  | tick e f =>
    rw [applyStep_tick, applyStep_tick, h'.1]
    split
    · exact arch_tickDecision_congr e f h hc
    · exact h
  | btn b => rw [applyStep_btn, applyStep_btn, h'.2.2.2.2.2.2.2.1]; split <;> simp [arch, h']
  | rot q p => rw [applyStep_rot, applyStep_rot, h'.2.2.2.2.2.2.2.1]; split <;> simp [arch, h', hc]
  | reconfigure r => exact arch_reconfigureTo_congr _ h hc
  | setDir g d =>
    simp only [applyStep, exec, execSetDir]
    cases dirOfCode d <;> simp [arch, h']
  | rst => simp [applyStep, exec, execRst, arch, resetRegisters, State.resetWith]
  | initTimer _ => simp [applyStep, exec, execInitTimer, arch, h']
  | stop _ => simp [applyStep, exec, execStop, arch, h']
  | clearStopReason _ => simp [applyStep, exec, execClearStopReason, arch, h']
  | initInputs _ => simp [applyStep, exec, execInitInputs, arch, h']
  | drainButtons _ => simp [applyStep, exec, execDrainButtons, arch, h']
  | drainRotary _ => simp [applyStep, exec, execDrainRotary, arch, h']
  | _ => exact h

end Sys2Proof.Machine
end

