-- ==== Sys2Proof/Laws/Cycle.lean ====
section
/-! SUPPORT. The cycle level: what a cycle's own update writes, field by field, and the form of a
cycle with and without reset and command. -/

namespace Sys2Proof.Machine

/-- The timer's own update writes its two counters. -/
theorem advanceTimer_eq (s : State) :
    advanceTimer s = { s with psc := (advanceTimer s).psc, tcnt := (advanceTimer s).tcnt } := by
  unfold advanceTimer; split <;> (try split) <;> (try split) <;> rfl

/-- The pulse logic's own update writes the hold counter, and reads no other counter. -/
theorem advancePulse_eq (s : State) (a : BitVec 16) (b : BitVec 8) :
    advancePulse { s with psc := a, tcnt := b } =
      { s with psc := a, tcnt := b, pwCtr := (advancePulse s).pwCtr } := by
  unfold advancePulse; simp only; split <;> rfl

/-- The settle logic's own update writes its counter and its flag, and reads no other counter. -/
theorem advanceSettle_eq (s : State) (a : BitVec 16) (b : BitVec 8) (c : BitVec 32) :
    advanceSettle { s with psc := a, tcnt := b, pwCtr := c } =
      { s with psc := a, tcnt := b, pwCtr := c, settleCtr := (advanceSettle s).settleCtr,
               btnPend := (advanceSettle s).btnPend } := by
  unfold advanceSettle btnEdge; simp only; split <;> (try split) <;> (try split) <;> rfl

/-- The hidden update as one record: nothing outside the hidden registers is written, and each part
reads the registers of the cycle. -/
theorem advanceHidden_eq (p : Ports) (s : State) : advanceHidden p s =
    advanceSync p { s with psc := (advanceTimer s).psc, tcnt := (advanceTimer s).tcnt,
                           pwCtr := (advancePulse s).pwCtr,
                           settleCtr := (advanceSettle s).settleCtr,
                           btnPend := (advanceSettle s).btnPend } := by
  rw [advanceHidden, advanceTimer_eq s, advancePulse_eq, advanceSettle_eq]

section
variable (p : Ports) (s : State)
@[simp] theorem advanceHidden_run : (advanceHidden p s).run = s.run := by rw [advanceHidden_eq]; rfl
@[simp] theorem advanceHidden_divSel : (advanceHidden p s).divSel = s.divSel := by rw [advanceHidden_eq]; rfl
@[simp] theorem advanceHidden_tickCount : (advanceHidden p s).tickCount = s.tickCount := by rw [advanceHidden_eq]; rfl
@[simp] theorem advanceHidden_stopReason : (advanceHidden p s).stopReason = s.stopReason := by rw [advanceHidden_eq]; rfl
@[simp] theorem advanceHidden_stopDir : (advanceHidden p s).stopDir = s.stopDir := by rw [advanceHidden_eq]; rfl
@[simp] theorem advanceHidden_debCnt : (advanceHidden p s).debCnt = s.debCnt := by rw [advanceHidden_eq]; rfl
@[simp] theorem advanceHidden_desiredDir : (advanceHidden p s).desiredDir = s.desiredDir := by rw [advanceHidden_eq]; rfl
@[simp] theorem advanceHidden_capEn : (advanceHidden p s).capEn = s.capEn := by rw [advanceHidden_eq]; rfl
@[simp] theorem advanceHidden_btnAcc : (advanceHidden p s).btnAcc = s.btnAcc := by rw [advanceHidden_eq]; rfl
@[simp] theorem advanceHidden_rotAcc : (advanceHidden p s).rotAcc = s.rotAcc := by rw [advanceHidden_eq]; rfl
@[simp] theorem advanceHidden_psc : (advanceHidden p s).psc = (advanceTimer s).psc := by rw [advanceHidden_eq]; rfl
@[simp] theorem advanceHidden_tcnt : (advanceHidden p s).tcnt = (advanceTimer s).tcnt := by rw [advanceHidden_eq]; rfl
@[simp] theorem advanceHidden_pwCtr : (advanceHidden p s).pwCtr = (advancePulse s).pwCtr := by rw [advanceHidden_eq]; rfl
@[simp] theorem advanceHidden_endM : (advanceHidden p s).endM = p.endstop := by rw [advanceHidden_eq]; rfl
@[simp] theorem advanceHidden_endS : (advanceHidden p s).endS = s.endM := by rw [advanceHidden_eq]; rfl
@[simp] theorem advanceHidden_estM : (advanceHidden p s).estM = p.estop := by rw [advanceHidden_eq]; rfl
@[simp] theorem advanceHidden_estS : (advanceHidden p s).estS = s.estM := by rw [advanceHidden_eq]; rfl
@[simp] theorem advanceHidden_btnM : (advanceHidden p s).btnM = p.btn := by rw [advanceHidden_eq]; rfl
@[simp] theorem advanceHidden_btnS : (advanceHidden p s).btnS = s.btnM := by rw [advanceHidden_eq]; rfl
@[simp] theorem advanceHidden_btnP : (advanceHidden p s).btnP = s.btnS := by rw [advanceHidden_eq]; rfl
@[simp] theorem advanceHidden_secM : (advanceHidden p s).secM = p.rotSec := by rw [advanceHidden_eq]; rfl
@[simp] theorem advanceHidden_secS : (advanceHidden p s).secS = s.secM := by rw [advanceHidden_eq]; rfl
@[simp] theorem advanceHidden_secP : (advanceHidden p s).secP = s.secS := by rw [advanceHidden_eq]; rfl
@[simp] theorem advanceHidden_priM : (advanceHidden p s).priM = p.rotPri := by rw [advanceHidden_eq]; rfl
@[simp] theorem advanceHidden_priS : (advanceHidden p s).priS = s.priM := by rw [advanceHidden_eq]; rfl
@[simp] theorem advanceHidden_settleCtr : (advanceHidden p s).settleCtr = (advanceSettle s).settleCtr := by rw [advanceHidden_eq]; rfl
@[simp] theorem advanceHidden_btnPend : (advanceHidden p s).btnPend = (advanceSettle s).btnPend := by rw [advanceHidden_eq]; rfl
@[simp] theorem advanceHidden_out : (advanceHidden p s).out = s.out := by rw [advanceHidden_eq]; rfl
@[simp] theorem advanceHidden_cfg : (advanceHidden p s).cfg = s.cfg := by rw [advanceHidden_eq]; rfl
@[simp] theorem advanceHidden_inputs : (advanceHidden p s).inputs = s.inputs := by rw [advanceHidden_eq]; rfl
end

@[simp] theorem arch_advanceHidden (p : Ports) (s : State) : arch (advanceHidden p s) = arch s := by
  simp [arch]

/-- A cycle with reset. -/
theorem cycle_of_rst {p : Ports} (h : p.rst = true) (s : State) : cycle p s = resetRegisters s := by
  simp [cycle, h]

/-- A cycle without reset. -/
theorem cycle_of_not_rst {p : Ports} (h : p.rst = false) (s : State) : cycle p s =
    drive { cycleResponse p s with pulse := cyclePulse s }
      ((cycleSteps p s).foldl applyStep (advanceHidden p s)) := by
  simp [cycle, h]

/-- A cycle with neither reset nor command: its own update, then its events. -/
theorem cycle_of_idle {p : Ports} (h : idlePorts p = true) (s : State) : cycle p s =
    drive { pulse := cyclePulse s } ((cycleEvents s).foldl applyStep (advanceHidden p s)) := by
  simp [idlePorts] at h
  simp [cycle, h, cycleResponse, cycleSteps, cycleCommand, silent]

/-- A command word never decodes to an event (R70, R75). -/
theorem decodeCommand_ne_rst (w : CmdWord) : decodeCommand w ≠ .rst := by
  unfold decodeCommand; dsimp only; split <;> simp

/-- RST is not among the steps of a cycle without reset. -/
theorem rst_not_mem_cycleSteps (p : Ports) (s : State) : Instr.rst ∉ cycleSteps p s := by
  have he : Instr.rst ∉ cycleEvents s := by
    unfold cycleEvents; cases tickDue s <;> cases btnDue s <;> cases rotDue s <;> simp
  unfold cycleSteps
  split
  · exact he
  · rename_i i hi
    have hr : i ≠ .rst := by
      simp only [cycleCommand] at hi
      split at hi
      · injection hi with hi; exact hi ▸ decodeCommand_ne_rst _
      · cases hi
    split <;> simp [he, hr.symm]

/-- What every step but RST keeps, the steps of a cycle without reset keep. -/
theorem foldl_cycleSteps_keeps {P : State → Prop}
    (hstep : ∀ i u, i ≠ .rst → P u → P (applyStep u i)) (p : Ports) (s : State) {u : State} (hu : P u) :
    P ((cycleSteps p s).foldl applyStep u) := by
  have key : ∀ l : List Instr, .rst ∉ l → ∀ u, P u → P (l.foldl applyStep u) := by
    intro l
    induction l with
    | nil => exact fun _ _ h => h
    | cons i l ih =>
      intro hl u hu
      simp only [List.mem_cons, not_or] at hl
      exact ih hl.2 _ (hstep _ _ (Ne.symm hl.1) hu)
  exact key _ (rst_not_mem_cycleSteps p s) _ hu

/-- What no step but RST changes, a cycle without reset changes only by its own update. -/
theorem cycle_frame {α : Sort _} {p : Ports} (h : p.rst = false) (s : State) (f : State → α)
    (hstep : ∀ i u, i ≠ .rst → f (applyStep u i) = f u) (hdrive : ∀ o u, f (drive o u) = f u) :
    f (cycle p s) = f (advanceHidden p s) := by
  rw [cycle_of_not_rst h, hdrive]
  exact foldl_cycleSteps_keeps (P := fun u => f u = f (advanceHidden p s))
    (fun i u hi hu => (hstep i u hi).trans hu) p s rfl

/-- The hidden update does not read the command port. -/
theorem advanceHidden_command (p : Ports) (v : Bool) (w : CmdWord) (s : State) :
    advanceHidden { p with cmdValid := v, cmdWord := w } s = advanceHidden p s := rfl

/-- The settle counter is written by its own update alone (R183). -/
theorem cycle_settleCtr {p : Ports} (h : p.rst = false) (s : State) :
    (cycle p s).settleCtr = (advanceSettle s).settleCtr := by
  rw [cycle_frame h s State.settleCtr (applyStep_frame _ (by simp) (by simp) (by simp) (by simp) (by simp)
    (by simp) (by simp) (by simp) (by simp) (by simp) (by simp) (by simp) · ·) (by simp), advanceHidden_settleCtr]

/-- The pending flag is written by the settle logic alone (R183). -/
theorem cycle_btnPend {p : Ports} (h : p.rst = false) (s : State) :
    (cycle p s).btnPend = (advanceSettle s).btnPend := by
  rw [cycle_frame h s State.btnPend (applyStep_frame _ (by simp) (by simp) (by simp) (by simp) (by simp)
    (by simp) (by simp) (by simp) (by simp) (by simp) (by simp) (by simp) · ·) (by simp), advanceHidden_btnPend]

/-- Every cycle keeps the configuration (R63). -/
@[simp] theorem cycle_cfg (p : Ports) (s : State) : (cycle p s).cfg = s.cfg := by
  cases h : p.rst
  · simp [cycle_of_not_rst h]
  · rw [cycle_of_rst h]; rfl

/-- No cycle without reset disables capture (R180). -/
theorem cycle_capEn {p : Ports} {s : State} (hr : p.rst = false) (h : s.capEn = true) :
    (cycle p s).capEn = true := by
  rw [cycle_of_not_rst hr]
  exact foldl_cycleSteps_keeps (P := fun u => u.capEn = true) (fun _ _ => applyStep_capEn) p s (by simp [h])

/-- A cycle-level run in two parts. -/
theorem runCycles_append (ps qs : List Ports) (s : State) :
    runCycles (ps ++ qs) s = runCycles qs (runCycles ps s) := List.foldl_append ..

/-- The samples of a run in two parts. -/
theorem sampleCount_append (ps qs : List Ports) (s : State) :
    sampleCount (ps ++ qs) s = sampleCount ps s + sampleCount qs (runCycles ps s) := by
  induction ps generalizing s with
  | nil => simp [sampleCount, runCycles]
  | cons p ps ih => simp [sampleCount, ih, Nat.add_assoc]; rfl

end Sys2Proof.Machine
end

