-- ==== Sys2Proof/Laws/Words.lean ====
section
/-! SUPPORT. What the encoder's word builders do, bit by bit and field by field. -/

namespace Sys2Proof

/-- Bit k of a command's trace word: of the argument below 32, of the opcode from there on. -/
theorem encodeCommand_getLsbD (op : BitVec 4) (arg : Word) (k : Nat) :
    (encodeCommand op arg).getLsbD k = if k < 32 then arg.getLsbD k else op.getLsbD (k - 32) := by
  simp only [encodeCommand, BitVec.getLsbD_or, BitVec.getLsbD_shiftLeft, BitVec.getLsbD_setWidth]
  by_cases h : k < 32
  · simp [h]; omega
  · have h1 : arg.getLsbD k = false := BitVec.getLsbD_of_ge _ _ (by omega)
    by_cases h2 : k < 40
    · simp [h, h1, h2]; omega
    · have : op.getLsbD (k - 32) = false := BitVec.getLsbD_of_ge _ _ (by omega)
      simp [h, h1, h2, this]

/-- Bit k of an event's trace word: of the payload below 36, of the class from there on. -/
theorem encodeEvent_getLsbD (cls : BitVec 4) (payload : BitVec 36) (k : Nat) :
    (encodeEvent cls payload).getLsbD k = if k < 36 then payload.getLsbD k else cls.getLsbD (k - 36) := by
  simp only [encodeEvent, BitVec.getLsbD_or, BitVec.getLsbD_shiftLeft, BitVec.getLsbD_setWidth]
  by_cases h : k < 36
  · simp [h]; omega
  · have h1 : payload.getLsbD k = false := BitVec.getLsbD_of_ge _ _ (by omega)
    by_cases h2 : k < 40
    · simp [h, h1, h2]; omega
    · have : cls.getLsbD (k - 36) = false := BitVec.getLsbD_of_ge _ _ (by omega)
      simp [h, h1, h2, this]

@[simp] theorem traceClass_encodeCommand (op : BitVec 4) (arg : Word) :
    traceClass (encodeCommand op arg) = 0 := by
  apply BitVec.eq_of_getLsbD_eq; intro i hi
  simp only [traceClass, BitVec.getLsbD_extractLsb', encodeCommand_getLsbD]
  simp [show ¬ 36 + i < 32 by omega, BitVec.getLsbD_of_ge op (36 + i - 32) (by omega)]

@[simp] theorem traceClass_encodeEvent (cls : BitVec 4) (payload : BitVec 36) :
    traceClass (encodeEvent cls payload) = cls := by
  apply BitVec.eq_of_getLsbD_eq; intro i hi
  simp [traceClass, encodeEvent_getLsbD, hi]

/-- The opcode field of a command's trace word. -/
theorem opcode_encodeCommand (op : BitVec 4) (arg : Word) :
    ((encodeCommand op arg).extractLsb' 0 36).extractLsb' 32 4 = op := by
  apply BitVec.eq_of_getLsbD_eq; intro i hi
  simp only [BitVec.getLsbD_extractLsb', encodeCommand_getLsbD]
  simp [hi, show 32 + i < 36 by omega]

/-- A field of a command's trace word inside the argument. -/
theorem argField_encodeCommand (op : BitVec 4) (arg : Word) (a n : Nat) (h : a + n ≤ 32) :
    ((encodeCommand op arg).extractLsb' 0 36).extractLsb' a n = arg.extractLsb' a n := by
  apply BitVec.eq_of_getLsbD_eq; intro i hi
  simp only [BitVec.getLsbD_extractLsb', encodeCommand_getLsbD]
  simp [hi, show a + i < 32 by omega]; omega

/-- The argument field of a command's trace word. -/
theorem arg_encodeCommand (op : BitVec 4) (arg : Word) :
    ((encodeCommand op arg).extractLsb' 0 36).extractLsb' 0 32 = arg := by
  rw [argField_encodeCommand _ _ _ _ (by omega)]; simp

/-- The ignored bits of form CD. -/
theorem directionArg_ignored (g : BitVec 30) (d : BitVec 2) :
    (directionArg g d).extractLsb' 2 30 = g := by
  apply BitVec.eq_of_getLsbD_eq; intro i hi
  simp only [directionArg, BitVec.getLsbD_extractLsb', BitVec.getLsbD_or, BitVec.getLsbD_shiftLeft,
    BitVec.getLsbD_setWidth]
  rw [BitVec.getLsbD_of_ge d (2 + i) (by omega)]
  simp [hi, show 2 + i < 32 by omega, show ¬ 2 + i ≤ 1 by omega, show i < 32 by omega]

/-- The direction code of form CD. -/
theorem directionArg_code (g : BitVec 30) (d : BitVec 2) : (directionArg g d).extractLsb' 0 2 = d := by
  apply BitVec.eq_of_getLsbD_eq; intro i hi
  simp only [directionArg, BitVec.getLsbD_extractLsb', BitVec.getLsbD_or, BitVec.getLsbD_shiftLeft,
    BitVec.getLsbD_setWidth]
  simp [hi, show i < 32 by omega]

/-- A 32-bit argument put together again from the two fields of form CD. -/
theorem directionArg_fields (w : Word) : directionArg (w.extractLsb' 2 30) (w.extractLsb' 0 2) = w := by
  apply BitVec.eq_of_getLsbD_eq; intro i hi
  simp only [directionArg, BitVec.getLsbD_or, BitVec.getLsbD_shiftLeft, BitVec.getLsbD_setWidth,
    BitVec.getLsbD_extractLsb']
  by_cases h : i < 2
  · simp [h, hi]
  · have : 2 + (i - 2) = i := by omega
    simp [h, hi, this, show i - 2 < 30 by omega, show i - 2 < 32 by omega]

/-- A trace word put together again from its class and its low 36 bits. -/
theorem encodeEvent_fields (tw : TraceWord) : encodeEvent (traceClass tw) (tw.extractLsb' 0 36) = tw := by
  apply BitVec.eq_of_getLsbD_eq; intro i hi
  simp only [encodeEvent_getLsbD, traceClass, BitVec.getLsbD_extractLsb']
  by_cases h : i < 36
  · simp [h]
  · have : 36 + (i - 36) = i := by omega
    simp [h, this]; omega

/-- A command's trace word is an event's of class 0 with the command word as payload. -/
theorem encodeCommand_fields (w : CmdWord) :
    encodeCommand (w.extractLsb' 32 4) (w.extractLsb' 0 32) = encodeEvent 0 w := by
  apply BitVec.eq_of_getLsbD_eq; intro i hi
  simp only [encodeEvent_getLsbD, encodeCommand_getLsbD, BitVec.getLsbD_extractLsb']
  by_cases h : i < 32
  · simp [h, show i < 36 by omega]
  · by_cases h2 : i < 36
    · have : 32 + (i - 32) = i := by omega
      simp [h, h2, this]; omega
    · simp [h, h2]; omega

/-- Decoding a command's trace word is decoding its command word. -/
theorem decode_encodeCommand (op : BitVec 4) (arg : Word) :
    decode (encodeCommand op arg) = .ok (decodeCommand ((encodeCommand op arg).extractLsb' 0 36)) := by
  simp [decode]

end Sys2Proof
end

