-- ==== Sys2Proof/Laws/PerInstr.lean ====
section
/-! SUPPORT. One family of statements over all instructions, one lemma per constructor: the encoding
of a step lies in its own row of the opcode table. -/

namespace Sys2Proof.Laws.TableRow

/-- The mask of an instruction's row of spec/opcode_table.json. -/
def mask : Instr → TraceWord
  | .nop _ => 0xFF00000000
  | .initTimer _ => 0xFF00000000
  | .initInputs _ => 0xFF00000000
  | .reconfigure _ => 0xFF00000000
  | .stop _ => 0xFF00000000
  | .setDir _ _ => 0xFF00000000
  | .getStopReason _ => 0xFF00000000
  | .clearStopReason _ => 0xFF00000000
  | .drainButtons _ => 0xFF00000000
  | .drainRotary _ => 0xFF00000000
  | .getStatus _ => 0xFF00000000
  | .getTimerCfg _ => 0xFF00000000
  | .reservedC _ => 0xFF00000000
  | .reservedD _ => 0xFF00000000
  | .reservedE _ => 0xFF00000000
  | .reservedF _ => 0xFF00000000
  | .tick _ _ => 0xFFFFFFFFFC
  | .btn _ => 0xFFFFFFFFC0
  | .rot _ _ => 0xFFFFFFFFFC
  | .rst => 0xFFFFFFFFFF

/-- The match of an instruction's row of spec/opcode_table.json. -/
def pattern : Instr → TraceWord
  | .nop _ => 0x0000000000
  | .initTimer _ => 0x0100000000
  | .initInputs _ => 0x0200000000
  | .reconfigure _ => 0x0300000000
  | .stop _ => 0x0400000000
  | .setDir _ _ => 0x0500000000
  | .getStopReason _ => 0x0600000000
  | .clearStopReason _ => 0x0700000000
  | .drainButtons _ => 0x0800000000
  | .drainRotary _ => 0x0900000000
  | .getStatus _ => 0x0A00000000
  | .getTimerCfg _ => 0x0B00000000
  | .reservedC _ => 0x0C00000000
  | .reservedD _ => 0x0D00000000
  | .reservedE _ => 0x0E00000000
  | .reservedF _ => 0x0F00000000
  | .tick _ _ => 0x1000000000
  | .btn _ => 0x2000000000
  | .rot _ _ => 0x3000000000
  | .rst => 0xF000000000

/-- The encoding of a well-formed instruction has its row's fixed bits. -/
def Statement (i : Instr) : Prop := i.wf = true → encode i &&& mask i = pattern i

/-- The fixed bits of a host command's trace word are its class and its opcode. -/
theorem encodeCommand_masked (op : BitVec 4) (arg : Word) :
    encodeCommand op arg &&& 0xFF00000000 = op.setWidth 40 <<< 32 := by
  have low : ∀ k < 32, (0xFF00000000#40).getLsbD k = false := by decide
  have high : ∀ k < 40, 32 ≤ k → (0xFF00000000#40).getLsbD k = true := by decide
  apply BitVec.eq_of_getLsbD_eq; intro k hk
  rw [BitVec.getLsbD_and, encodeCommand_getLsbD, BitVec.getLsbD_shiftLeft, BitVec.getLsbD_setWidth]
  by_cases h : k < 32
  · simp [h, low k h]
  · simp [h, high k hk (by omega), hk, show k - 32 < 40 by omega]

theorem nop (arg : Word) : Statement (.nop arg) :=
  fun _ => (encodeCommand_masked 0x0 arg).trans rfl
theorem initTimer (arg : Word) : Statement (.initTimer arg) :=
  fun _ => (encodeCommand_masked 0x1 arg).trans rfl
theorem initInputs (arg : Word) : Statement (.initInputs arg) :=
  fun _ => (encodeCommand_masked 0x2 arg).trans rfl
theorem reconfigure (arg : Word) : Statement (.reconfigure arg) :=
  fun _ => (encodeCommand_masked 0x3 arg).trans rfl
theorem stop (arg : Word) : Statement (.stop arg) :=
  fun _ => (encodeCommand_masked 0x4 arg).trans rfl
theorem setDir (ignored : BitVec 30) (d : BitVec 2) : Statement (.setDir ignored d) :=
  fun _ => (encodeCommand_masked 0x5 _).trans rfl
theorem getStopReason (arg : Word) : Statement (.getStopReason arg) :=
  fun _ => (encodeCommand_masked 0x6 arg).trans rfl
theorem clearStopReason (arg : Word) : Statement (.clearStopReason arg) :=
  fun _ => (encodeCommand_masked 0x7 arg).trans rfl
theorem drainButtons (arg : Word) : Statement (.drainButtons arg) :=
  fun _ => (encodeCommand_masked 0x8 arg).trans rfl
theorem drainRotary (arg : Word) : Statement (.drainRotary arg) :=
  fun _ => (encodeCommand_masked 0x9 arg).trans rfl
theorem getStatus (arg : Word) : Statement (.getStatus arg) :=
  fun _ => (encodeCommand_masked 0xA arg).trans rfl
theorem getTimerCfg (arg : Word) : Statement (.getTimerCfg arg) :=
  fun _ => (encodeCommand_masked 0xB arg).trans rfl
theorem reservedC (arg : Word) : Statement (.reservedC arg) :=
  fun _ => (encodeCommand_masked 0xC arg).trans rfl
theorem reservedD (arg : Word) : Statement (.reservedD arg) :=
  fun _ => (encodeCommand_masked 0xD arg).trans rfl
theorem reservedE (arg : Word) : Statement (.reservedE arg) :=
  fun _ => (encodeCommand_masked 0xE arg).trans rfl
theorem reservedF (arg : Word) : Statement (.reservedF arg) :=
  fun _ => (encodeCommand_masked 0xF arg).trans rfl
theorem tick (e s : Bool) : Statement (.tick e s) := by
  revert e s; unfold Statement; decide
theorem btn (b : Buttons) : Statement (.btn b) := by
  revert b; unfold Statement; decide
theorem rot (q p : Bool) : Statement (.rot q p) := by
  revert q p; unfold Statement; decide
theorem rst : Statement .rst := by
  unfold Statement; decide

end Sys2Proof.Laws.TableRow
end

