-- ==== Sys2Proof/Laws/Rate.lean ====
section
/-! SUPPORT. What a well-formed configuration guarantees (R12), and what the rate decoder's scan and
the whole decoder can answer. -/

namespace Sys2Proof

/-- The order of a divisor table, position by position. -/
theorem Params.strictlyIncreasing_get (l : List Nat) (h : Params.strictlyIncreasing l = true) (i : Nat)
    (hi : i + 1 < l.length) : l.getD i 1 < l.getD (i + 1) 1 := by
  induction l generalizing i with
  | nil => simp at hi
  | cons a l ih =>
    cases l with
    | nil => simp at hi
    | cons b l =>
      simp only [Params.strictlyIncreasing, Bool.and_eq_true, decide_eq_true_eq] at h
      cases i with
      | zero => simpa using h.1
      | succ i => simpa using ih h.2 i (by simpa using hi)

/-- The gaps of a divisor table, position by position. -/
theorem Params.contiguous_get (l : List Nat) (h : Params.contiguous l = true) (i : Nat)
    (hi : i + 1 < l.length) : l.getD (i + 1) 1 ≤ 255 * l.getD i 1 := by
  induction l generalizing i with
  | nil => simp at hi
  | cons a l ih =>
    cases l with
    | nil => simp at hi
    | cons b l =>
      simp only [Params.contiguous, Bool.and_eq_true] at h
      cases i with
      | zero => simpa [maxCount] using of_decide_eq_true h.1
      | succ i => simpa using ih h.2 i (by simpa using hi)

/-- The ranges of a well-formed configuration (R10, R12 (a)). -/
structure ConfigBounds (c : Config) : Prop where
  fClkHz : 1 ≤ c.fClkHz ∧ c.fClkHz < 2 ^ 32
  ndiv : 1 ≤ c.ndiv ∧ c.ndiv ≤ 256
  divisor : ∀ i < c.ndiv, 1 ≤ c.divisor i ∧ c.divisor i ≤ 65535
  spu : 1 ≤ c.spu ∧ c.spu < 2 ^ 32
  pwUs : 1 ≤ c.pwUs ∧ c.pwUs ≤ 65535
  threshold : 1 ≤ c.threshold ∧ c.threshold ≤ 65535
  settleCycles : 1 ≤ c.settleCycles ∧ c.settleCycles < 2 ^ 32
  increasing : ∀ i, i + 1 < c.ndiv → c.divisor i < c.divisor (i + 1)
  contiguous : ∀ i, i + 1 < c.ndiv → c.divisor (i + 1) ≤ 255 * c.divisor i
  pwCycles : 1 ≤ c.pwCycles ∧ c.pwCycles < 2 ^ 32

/-- What R12 gives. -/
theorem Config.bounds (c : Config) : ConfigBounds c := by
  have h := c.wf
  simp only [Params.wf, Params.rangesOk, Params.inRange, Bool.and_eq_true, decide_eq_true_eq,
    List.all_eq_true] at h
  obtain ⟨⟨⟨⟨⟨⟨⟨⟨⟨h1, h2⟩, h3⟩, h4⟩, h5⟩, h6⟩, h7⟩, h8⟩, h9⟩, h10⟩ := h
  have hp : c.pwUs * c.fClkHz ≤ 65535 * 4294967295 := Nat.mul_le_mul h5.2 h1.2
  refine ⟨by omega, h2, ?_, by omega, h5, h6, by omega, ?_, ?_, h10, ?_⟩
  · intro i hi
    have hi' : i < c.div.length := hi
    have := h3 c.div[i] (List.getElem_mem hi')
    simpa [Params.divisor, hi'] using this
  · exact fun i hi => Params.strictlyIncreasing_get _ h8 i hi
  · exact fun i hi => Params.contiguous_get _ h9 i hi
  · simp only [Params.pwCycles]; split <;> omega

/-- A longer divisor stands later in the table. -/
theorem ConfigBounds.divisor_mono {c : Config} (h : ConfigBounds c) {i j : Nat} (hij : i ≤ j)
    (hj : j < c.ndiv) : c.divisor i ≤ c.divisor j := by
  induction j, hij using Nat.le_induction with
  | base => exact le_refl _
  | succ j hle ih => exact le_trans (ih (by omega)) (h.increasing j hj).le

namespace Machine

/-- Option reach as an inequality of integers (R105). -/
theorem reaches_eq_true (c : Config) (rate d : Nat) :
    reaches c rate d = true ↔ delayScaled c rate ≤ 255 * countScaled c rate d := by
  simp only [reaches, decide_eq_true_eq]; simp [maxCount]

theorem reaches_eq_false (c : Config) (rate d : Nat) :
    reaches c rate d = false ↔ 255 * countScaled c rate d < delayScaled c rate := by
  simp only [reaches, decide_eq_false_iff_not]; simp [maxCount]

/-- What the scan answers when it finds an option: the first one of the list that reaches. -/
theorem scanOptions_some {c : Config} {rate : Nat} {l : List Nat} {k i d : Nat}
    (h : scanOptions c rate l k = some (i, d)) :
    k ≤ i ∧ i - k < l.length ∧ l.getD (i - k) 1 = d ∧ reaches c rate d = true ∧
      ∀ j < i - k, reaches c rate (l.getD j 1) = false := by
  induction l generalizing k with
  | nil => simp [scanOptions] at h
  | cons a l ih =>
    simp only [scanOptions] at h
    split at h
    · rename_i ha
      simp only [Option.some.injEq, Prod.mk.injEq] at h
      obtain ⟨rfl, rfl⟩ := h
      simp [ha]
    · rename_i ha
      obtain ⟨h1, h2, h3, h4, h5⟩ := ih h
      obtain ⟨m, hm⟩ : ∃ m, i - k = m + 1 := ⟨i - k - 1, by omega⟩
      have hm' : i - (k + 1) = m := by omega
      rw [hm'] at h2 h3 h5
      rw [hm]
      refine ⟨by omega, by simpa using h2, by simpa using h3, h4, fun j hj => ?_⟩
      cases j with
      | zero => simpa using ha
      | succ j => simpa using h5 j (by omega)

/-- What the scan answers when it finds none. -/
theorem scanOptions_none {c : Config} {rate : Nat} {l : List Nat} {k : Nat}
    (h : scanOptions c rate l k = none) : ∀ j < l.length, reaches c rate (l.getD j 1) = false := by
  induction l generalizing k with
  | nil => simp
  | cons a l ih =>
    simp only [scanOptions] at h
    split at h
    · cases h
    · rename_i ha
      intro j hj
      cases j with
      | zero => simpa using ha
      | succ j => simpa using ih h j (by simpa using hj)

/-- Everything the rate decoder can answer for a non-zero rate (R104 to R107): too fast; the first
option that reaches, with the truncated quotient; or too slow. -/
theorem decodeRate_cases (c : Config) (rate : Nat) :
    (delayScaled c rate < countScaled c rate (c.divisor 0) ∧ decodeRate c rate = .tooFast) ∨
    (countScaled c rate (c.divisor 0) ≤ delayScaled c rate ∧
      (∀ j < c.ndiv, reaches c rate (c.divisor j) = false) ∧ decodeRate c rate = .tooSlow) ∨
    (∃ i, countScaled c rate (c.divisor 0) ≤ delayScaled c rate ∧ i < c.ndiv ∧
      reaches c rate (c.divisor i) = true ∧ (∀ j < i, reaches c rate (c.divisor j) = false) ∧
      decodeRate c rate =
        .program i (delayScaled c rate / countScaled c rate (c.divisor i)).toNat) := by
  by_cases hf : delayScaled c rate < countScaled c rate (c.divisor 0)
  · exact .inl ⟨hf, by simp [decodeRate, hf]⟩
  · right
    have hf' := not_lt.mp hf
    cases hs : scanOptions c rate c.div 0 with
    | none =>
      exact .inl ⟨hf', scanOptions_none hs, by simp [decodeRate, hf, hs]⟩
    | some x =>
      obtain ⟨i, d⟩ := x
      obtain ⟨_, h2, h3, h4, h5⟩ := scanOptions_some hs
      simp only [Nat.sub_zero] at h2 h3 h5
      have hd : c.divisor i = d := h3
      exact .inr ⟨i, hf', h2, by rw [hd]; exact h4, h5, by simp [decodeRate, hf, hs, hd]⟩

/-- A later option has a longer count period. -/
theorem countScaled_mono {c : Config} {rate i j : Nat} (hij : i ≤ j) (hj : j < c.ndiv) :
    countScaled c rate (c.divisor i) ≤ countScaled c rate (c.divisor j) := by
  have := c.bounds.divisor_mono hij hj
  simp only [countScaled]
  exact_mod_cast Nat.mul_le_mul_right _ (Nat.mul_le_mul_right _ this)

/-- For a non-zero rate the divisor of the quotient is positive (R103). -/
theorem countScaled_pos {c : Config} {rate i : Nat} (hr : 0 < rate) (hi : i < c.ndiv) :
    0 < countScaled c rate (c.divisor i) := by
  have h1 := (c.bounds.divisor i hi).1
  have h2 := c.bounds.spu.1
  simp only [countScaled, rateSteps]
  exact_mod_cast Nat.mul_pos (Nat.mul_pos h1 (by norm_num)) (Nat.mul_pos hr h2)

/-- The gap between two neighbouring options is at most the largest tick count (R12 (c)). -/
theorem countScaled_succ_le {c : Config} (rate : Nat) {i : Nat} (hi : i + 1 < c.ndiv) :
    countScaled c rate (c.divisor (i + 1)) ≤ 255 * countScaled c rate (c.divisor i) := by
  have := Nat.mul_le_mul_right (rateSteps c rate)
    (Nat.mul_le_mul_right 1000000 (c.bounds.contiguous i hi))
  simp only [countScaled]
  zify at this
  push_cast
  linarith

end Machine

end Sys2Proof
end

