-- ==== Sys2Proof/Tests/Slice0.lean ====
section
/-! SUPPORT. Tests: the well-formedness checks refuse ill-formed terms; every constructor's word,
written out from R71, R75 and R79, decodes to it; single steps whose results are rows of
spec/95_test_vectors.md; the text form; and for every obligation with hypotheses, a concrete witness
that meets them. -/

namespace Sys2Proof.Tests

open Sys2Proof Sys2Proof.Machine

/-! ### Configurations and small states -/

/-- CFG_TINY with `T = 1` (program B of spec/95). -/
def tinyOne : Config := { threshold := 1 }
/-- CFG_TINY with `T = 1` and no back-away. -/
def tinyOneNoBackaway : Config := { threshold := 1, backaway := false }
/-- CFG_TINY with the other polarity. -/
def tinyMinus : Config := { rotPol := .minus }

/-- The state after reset of the machine with a configuration. -/
def fresh (c : Config) : State := State.resetWith c []
/-- A running timer with compare period 3 cycles, direction CW. -/
def running (c : Config) : State := { fresh c with run := true, tickCount := 3, desiredDir := .cw }
/-- The same with a debounce count, a latch and a direction (the start states of the K table). -/
def ticking (c : Config) (count : BitVec 16) (latch dir : Dir) : State :=
  { running c with debCnt := count, stopDir := latch, desiredDir := dir }
/-- Capture enabled. -/
def capturing (c : Config) : State := { fresh c with capEn := true }

/-- What a TICK is checked for: pulse, RUN, STOP_REASON, STOP_DIR, DEB_CNT. -/
def tickRow (s : State) (e f : Bool) : Bool × Bool × StopReason × Dir × BitVec 16 :=
  let t := applyStep s (.tick e f)
  (t.out.pulse, t.run, t.stopReason, t.stopDir, t.debCnt)

/-! ### Well-formedness (R12, R79, U13) -/

theorem test_wf_tiny : Params.wf {} = true := by decide
theorem test_wf_ref : Params.wf Config.ref.toParams = true := by decide
theorem test_wf_clock_zero : Params.wf { fClkHz := 0 } = false := by decide
theorem test_wf_clock_wide : Params.wf { fClkHz := 4294967296 } = false := by decide
theorem test_wf_no_divisor : Params.wf { div := [] } = false := by decide
theorem test_wf_divisor_wide : Params.wf { div := [65535, 65536] } = false := by decide
theorem test_wf_divisor_zero : Params.wf { div := [0] } = false := by decide
theorem test_wf_spu_zero : Params.wf { spu := 0 } = false := by decide
theorem test_wf_pulse_zero : Params.wf { pwUs := 0 } = false := by decide
theorem test_wf_pulse_wide : Params.wf { pwUs := 65536 } = false := by decide
theorem test_wf_threshold_zero : Params.wf { threshold := 0 } = false := by decide
theorem test_wf_threshold_wide : Params.wf { threshold := 65536 } = false := by decide
theorem test_wf_settle_zero : Params.wf { settleCycles := 0 } = false := by decide
theorem test_wf_not_increasing : Params.wf { div := [1, 8, 8] } = false := by decide
theorem test_wf_gap : Params.wf { div := [1, 256] } = false := by decide
theorem test_wf_gap_at_limit : Params.wf { div := [1, 255] } = true := by decide
theorem test_check_refuses : Config.check { div := [1, 256] } = none := by decide
theorem test_check_accepts : (Config.check {}).isSome = true := by decide
theorem test_word_class : TraceWord.wf 0x4000000000 = false := by decide
theorem test_word_tick : TraceWord.wf 0x1000000004 = false := by decide
theorem test_word_btn : TraceWord.wf 0x2000000040 = false := by decide
theorem test_word_rot : TraceWord.wf 0x3000000004 = false := by decide
theorem test_word_rst : TraceWord.wf 0xF000000001 = false := by decide
theorem test_decode_refuses_class : decode 0xE000000000 = .error .classNotAStep := by decide
theorem test_decode_refuses_bits : decode 0xF000000001 = .error .unusedBitsNotZero := by decide
theorem test_table_word_long : decodeTableWord 48 0x10000000000 = none := by decide

/-! ### Decoding: every constructor's word, from R71, R75 and R79 -/

theorem test_decode_nop : decode 0x0000000000 = .ok (.nop 0) := by decide
theorem test_decode_initTimer : decode 0x0100000000 = .ok (.initTimer 0) := by decide
theorem test_decode_initInputs : decode 0x0200000000 = .ok (.initInputs 0) := by decide
theorem test_decode_reconfigure : decode 0x0300002710 = .ok (.reconfigure 10000) := by decide
theorem test_decode_stop : decode 0x04DEADBEEF = .ok (.stop 0xDEADBEEF) := by decide
theorem test_decode_setDir : decode 0x0500000002 = .ok (.setDir 0 2) := by decide
theorem test_decode_setDir_ignored : decode 0x0580000005 = .ok (.setDir 0x20000001 1) := by decide
theorem test_decode_getStopReason : decode 0x0600000000 = .ok (.getStopReason 0) := by decide
theorem test_decode_clearStopReason : decode 0x0700000000 = .ok (.clearStopReason 0) := by decide
theorem test_decode_drainButtons : decode 0x0800000000 = .ok (.drainButtons 0) := by decide
theorem test_decode_drainRotary : decode 0x0900000000 = .ok (.drainRotary 0) := by decide
theorem test_decode_getStatus : decode 0x0A00000000 = .ok (.getStatus 0) := by decide
theorem test_decode_getTimerCfg : decode 0x0B00000000 = .ok (.getTimerCfg 0) := by decide
theorem test_decode_reservedC : decode 0x0C00000001 = .ok (.reservedC 1) := by decide
theorem test_decode_reservedD : decode 0x0D00000000 = .ok (.reservedD 0) := by decide
theorem test_decode_reservedE : decode 0x0E00000000 = .ok (.reservedE 0) := by decide
theorem test_decode_reservedF : decode 0x0FFFFFFFFF = .ok (.reservedF 0xFFFFFFFF) := by decide
theorem test_decode_tick_e : decode 0x1000000001 = .ok (.tick true false) := by decide
theorem test_decode_tick_s : decode 0x1000000002 = .ok (.tick false true) := by decide
theorem test_decode_btn : decode 0x2000000011 = .ok (.btn 0b010001) := by decide
theorem test_decode_rot_p : decode 0x3000000001 = .ok (.rot false true) := by decide
theorem test_decode_rot_q : decode 0x3000000002 = .ok (.rot true false) := by decide
theorem test_decode_rst : decode 0xF000000000 = .ok .rst := by decide
theorem test_encode_tick : encode (.tick true false) = 0x1000000001 := by decide
theorem test_encode_rot : encode (.rot true false) = 0x3000000002 := by decide
theorem test_encode_setDir : encode (.setDir 0x20000001 1) = 0x0580000005 := by decide
theorem test_table_word : decodeTableWord 40 0x1000000001 = some (.tick true false) := by decide

/-! ### Single steps (rows of spec/95_test_vectors.md) -/

theorem test_nop : exec (.nop 7) (running .tiny) = .next (running .tiny) := rfl
/-- Section 2, CFG_TINY, rate 10000. -/
theorem test_reconfigure_ok : (applyStep (fresh .tiny) (.reconfigure 10000)).tickCount = 98 ∧
    timerCfgWord (applyStep (fresh .tiny) (.reconfigure 62)) = 0x000102FB := by decide
/-- Section 2, the boundary rows 333333, 333334 and 61 of CFG_TINY. -/
theorem test_reconfigure_limits :
    (applyStep (fresh .tiny) (.reconfigure 333333)).out.rspData = 1 ∧
    (applyStep (fresh .tiny) (.reconfigure 333334)).out.rspData = 2 ∧
    (applyStep (running .tiny) (.reconfigure 61)).out.rspData = 4 ∧
    (applyStep (running .tiny) (.reconfigure 61)).run = false := by decide
theorem test_initTimer : applyStep (ticking .tiny 2 .cw .ccw) (.initTimer 0) =
    { fresh .tiny with desiredDir := .ccw } := by decide
theorem test_stop : (applyStep (ticking .tiny 2 .none .cw) (.stop 0)).run = false ∧
    (applyStep (ticking .tiny 2 .none .cw) (.stop 0)).debCnt = 2 := by decide
/-- Program A row 4 with row 12: GET_TIMER_CFG after rate 10000. -/
theorem test_getTimerCfg :
    (applyStep (applyStep (fresh .tiny) (.reconfigure 10000)) (.getTimerCfg 0)).out.rspData = 0x00010062 := by
  decide
theorem test_setDir : (applyStep (fresh .tiny) (.setDir 0x3FFFFFFF 2)).desiredDir = .ccw ∧
    (applyStep (running .tiny) (.setDir 0 3)).out.rspErr = true := by decide
/-- Program A row 11: GET_STATUS is 0xAA after the ENDSTOP stop with capture enabled. -/
theorem test_getStatus :
    statusWord { capturing .tiny with stopReason := .endstop, stopDir := .cw, desiredDir := .cw } = 0xAA := by decide
theorem test_getStatus_count : statusWord (ticking .tiny 0x1234 .none .ccw) = 0x12340041 := by decide
theorem test_getStopReason : (applyStep { fresh .tiny with stopReason := .emergencyStop }
    (.getStopReason 0)).out.rspData = 2 := by decide
theorem test_clearStopReason : applyStep { fresh .tiny with stopReason := .endstop, stopDir := .cw }
    (.clearStopReason 0) = { fresh .tiny with stopDir := .cw } := by decide
theorem test_reserved : (applyStep (running .tiny) (.reservedC 0)).out = { rspErr := true } ∧
    (applyStep (running .tiny) (.reservedF 5)).out = { rspErr := true } := by decide
/-- K4 and K6: threshold, latch and stop; the end stop wins over the emergency stop. -/
theorem test_tick_threshold : ∀ f, tickRow (ticking .tiny 2 .none .cw) true f = (false, false, .endstop, .cw, 0) := by
  decide
/-- K12 and K17: T = 3 clears the latch, T = 1 falls through and keeps it. -/
theorem test_tick_latch : tickRow (ticking .tiny 0 .cw .ccw) true false = (true, true, .none, .none, 1) ∧
    tickRow (ticking tinyOne 0 .cw .ccw) true false = (true, true, .none, .cw, 0) := by decide
theorem test_initInputs : applyStep (fresh .tiny) (.initInputs 0) = capturing .tiny := by decide
theorem test_btn : (applyStep { capturing .tiny with btnAcc := 1 } (.btn 0b010000)).btnAcc = 0b010001 := by decide
/-- Program C rows 17 and 20: counting down from 0 wraps; the drain returns two's complement. -/
theorem test_rot_wraps : (applyStep (capturing .tiny) (.rot false false)).rotAcc = 0xFFFFFFFF ∧
    (applyStep (capturing tinyMinus) (.rot false false)).rotAcc = 1 := by decide
theorem test_rot_gated : ∀ p, applyStep (capturing .tiny) (.rot true p) = capturing .tiny := by decide
theorem test_drainButtons : (applyStep { capturing .tiny with btnAcc := 0x3F } (.drainButtons 0)).out.rspData = 0x3F ∧
    (applyStep { capturing .tiny with btnAcc := 0x3F } (.drainButtons 0)).btnAcc = 0 := by decide
theorem test_drainRotary :
    (applyStep { capturing .tiny with rotAcc := 0xFFFFFFFD } (.drainRotary 0)).out.rspData = 0xFFFFFFFD ∧
    (applyStep { capturing .tiny with rotAcc := 0xFFFFFFFD } (.drainRotary 0)).rotAcc = 0 := by decide
theorem test_rst : applyStep { ticking .tiny 2 .cw .ccw with pwCtr := 2, psc := 5, endS := true } .rst = fresh .tiny := by
  decide
theorem test_tick_disabled : exec (.tick false false) (fresh .tiny) = .refused .tickNotEnabled := rfl
theorem test_step_empty : step State.reset = .refused .noInput := rfl
theorem test_fetch_word : step (State.reset.withFetchWord 40 0x0200000000) =
    .next { State.reset with capEn := true } := rfl
/-- A cycle with the compare match and SET_DIR: the TICK loads the pulse counter, the direction changes. -/
theorem test_cycle_tick :
    let t := cycle { cmdValid := true, cmdWord := 0x500000002 } { running .tiny with tcnt := 2 }
    t.out = { pulse := true } ∧ t.pwCtr = 2 ∧ t.tcnt = 0 ∧ t.desiredDir = .ccw := by decide

/-! ### The text form (R83, R84) -/

theorem test_text_command : parseLine "RECONFIGURE 1000 -> 0x1 ; comment".toList =
    some ([.reconfigure 1000], some 1) := by decide
theorem test_text_repeat : parseLine ".tick*3 e=1 s=0".toList =
    some ([.tick true false, .tick true false, .tick true false], none) := by decide
theorem test_text_rot : parseLine ".rot q=0 p=1".toList = some ([.rot false true], none) := by decide
theorem test_text_btn : parseLine ".btn 0b000101".toList = some ([.btn 5], none) := by decide
theorem test_text_feed : parseLine "FEED CW, 1000".toList = some (feed 1 1000, none) := by decide
theorem test_text_refused : parseLine "JUMP 4".toList = none := by decide

/-! ### Witnesses: concrete states and operands that meet an obligation's hypotheses, each clause at a
boundary value -/

theorem witness_DecodeOfEncode : Instr.wf (.setDir 0x3FFFFFFF 3) = true ∧ Instr.wf .rst = true := by decide
theorem witness_EncodeOfDecode : decode 0x0FFFFFFFFF = .ok (.reservedF 0xFFFFFFFF) ∧
    decode 0x200000003F = .ok (.btn 0x3F) := by decide
theorem witness_IgnoredBitsExecuteTheSame : Instr.nop ∈ [Instr.nop, .initTimer, .initInputs, .stop,
    .getStopReason, .clearStopReason, .drainButtons, .drainRotary, .getStatus, .getTimerCfg] := .head _
/-- A state with these entries scheduled. -/
def scheduled (c : Config) (xs : List Stimulus) : State := State.resetWith c xs
theorem witness_StepRunsScheduledEntry :
    ((scheduled .tiny [.trace 0xF000000000]).inputs = [.trace 0xF000000000] ∧
      decode 0xF000000000 = .ok .rst ∧ Instr.wf .rst = true) ∧
    (scheduled .tiny [.cycle {}]).inputs = [.cycle {}] ∧
    ((scheduled .tiny [.trace 0x4000000000]).inputs = [.trace 0x4000000000] ∧
      decode 0x4000000000 = .error .classNotAStep) := by decide
theorem witness_FetchWordRunsNext : decodeTableWord 40 0x0A00000000 = some (.getStatus 0) ∧
    decodeTableWord 40 0xF000000000 = some .rst := by decide
theorem witness_StepCompletesExactlyWhenEnabled :
    (scheduled .tiny [.trace 0x1000000000, .cycle {}]).inputs = .trace 0x1000000000 :: [.cycle {}] := by decide
theorem witness_NopChangesNothing : decodeCommand ({ cmdWord := 0x0FFFFFFFF } : Ports).cmdWord = .nop 0xFFFFFFFF := by
  decide
/-- The four clauses over CFG_TINY at the boundary rates of spec/95 section 2: 333334 is the first
too fast, 333333 uses option 0, 62 is the last option's last, 61 is too slow. -/
theorem witness_ReconfigureOutcomes :
    let A : Int → Int := fun rate => (1000000000 - 2 * (rate * 1000)) * 1000000
    let B : Int → Int → Int := fun rate d => d * 1000000 * (rate * 1000)
    A 333334 < B 333334 1 ∧
    (B 333333 1 ≤ A 333333 ∧ A 333333 ≤ 255 * B 333333 1) ∧
    (B 62 1 ≤ A 62 ∧ A 62 ≤ 255 * B 62 64 ∧ 255 * B 62 1 < A 62 ∧ 255 * B 62 8 < A 62) ∧
    (B 61 1 ≤ A 61 ∧ 255 * B 61 1 < A 61 ∧ 255 * B 61 8 < A 61 ∧ 255 * B 61 64 < A 61) := by decide
theorem witness_ReconfigureOutcomes_config : (fresh .tiny).cfg.spu = 1000 ∧ (fresh .tiny).cfg.pwUs = 2 ∧
    (fresh .tiny).cfg.fClkHz = 1000000 ∧ (fresh .tiny).cfg.divisor 0 = 1 ∧ (fresh .tiny).cfg.divisor 1 = 8 ∧
    (fresh .tiny).cfg.divisor 2 = 64 ∧ (fresh .tiny).cfg.ndiv = 3 := by decide
theorem witness_IntegerFormMatchesRational : 0 < 4294967295 ∧ 2 < Config.tiny.ndiv := by decide
theorem witness_TickCountBounds : decodeRate .tiny 333333 = .program 0 1 ∧ decodeRate .tiny 62 = .program 2 251 := by
  decide
theorem witness_QuantisationBound : (62 : Word) ≠ 0 ∧
    exec (.reconfigure 62) (fresh .tiny) = .next (applyStep (fresh .tiny) (.reconfigure 62)) ∧
    (applyStep (fresh .tiny) (.reconfigure 62)).out.rspData = 1 := ⟨by decide, rfl, by decide⟩
theorem witness_DecoderProperties :
    ((333333 : Word) ≠ 0 ∧ Config.tiny.tickPeriodUs 0 ≤ delayUs .tiny 333333 ∧
      delayUs .tiny 333333 ≤ 255 * Config.tiny.tickPeriodUs (Config.tiny.ndiv - 1)) ∧
    ((333334 : Word) ≠ 0 ∧ delayUs .tiny 333334 < Config.tiny.tickPeriodUs 0) ∧
    ((61 : Word) ≠ 0 ∧ 255 * Config.tiny.tickPeriodUs (Config.tiny.ndiv - 1) < delayUs .tiny 61) := by
  refine ⟨⟨by decide, ?_, ?_⟩, ⟨by decide, ?_⟩, ⟨by decide, ?_⟩⟩ <;>
    norm_num [Params.tickPeriodUs, delayUs, Params.divisor, Params.ndiv, Config.tiny, delayNum]
theorem witness_DecoderArithmeticFits : 2 < Config.tiny.ndiv ∧ (62 : Word) ≠ 0 ∧
    decodeRate .tiny (62 : Word).toNat = .program 2 251 := by decide
theorem witness_StopOnlyStopsTimer : (fresh .tiny).run = false ∧ idlePorts {} = true ∧
    decodeCommand 0x4FFFFFFFF = .stop 0xFFFFFFFF := by decide
theorem witness_SetDirWritesDirection : ({ cmdValid := true, cmdWord := 0x500000002 } : Ports).rst = false ∧
    decodeCommand 0x500000000 = .setDir 0 0 ∧ decodeCommand 0x500000001 = .setDir 0 1 ∧
    decodeCommand 0x500000002 = .setDir 0 2 ∧ decodeCommand 0x500000003 = .setDir 0 3 := by decide

/-- The running state has the invariants, and so have the others below. -/
theorem witness_running : Invariants (running .tiny) := by constructor <;> decide
theorem witness_ticking : Invariants (ticking .tiny 2 .none .cw) := by constructor <;> decide
theorem witness_latched : Invariants (ticking tinyOne 0 .cw .ccw) := by constructor <;> decide
theorem witness_stopped : Invariants { fresh .tiny with stopReason := .endstop, stopDir := .cw } := by
  constructor <;> decide

theorem witness_ClearStopReasonClears : (Invariants (running .tiny) ∧ (running .tiny).run = true) ∧
    decodeCommand 0x7FFFFFFFF = .clearStopReason 0xFFFFFFFF := ⟨⟨witness_running, rfl⟩, by decide⟩
theorem witness_InitInputsEnablesCapture_kept :
    exec (.initTimer 0) (capturing .tiny) = .next (applyStep (capturing .tiny) (.initTimer 0)) ∧
    Instr.initTimer 0 ≠ .rst ∧ (capturing .tiny).capEn = true := ⟨rfl, by decide, by decide⟩
theorem witness_InitInputsEnablesCapture : decodeCommand 0x200000000 = .initInputs 0 ∧
    (fresh .tiny).capEn = false ∧ (fresh .tiny).settleCtr = 0 := by decide
theorem witness_DrainButtonsReadsAndClears : decodeCommand 0x800000000 = .drainButtons 0 := by decide
theorem witness_DrainRotaryReadsAndClears : decodeCommand 0x900000000 = .drainRotary 0 := by decide
theorem witness_ResetClearsEveryRegister : ({ rst := true, cmdValid := true } : Ports).rst = true := by decide
/-- The three clauses: stop at the threshold; fall through at the threshold; below the threshold. -/
theorem witness_TickDecisionOutcomes :
    ((ticking .tiny 2 .none .cw).run = true ∧ (ticking .tiny 2 .none .cw).debCnt.toNat + 1 = Config.tiny.threshold) ∧
    ((ticking tinyOne 0 .cw .ccw).debCnt.toNat + 1 = tinyOne.threshold ∧ tinyOne.backaway = true) ∧
    ((ticking .tiny 1 .none .cw).debCnt.toNat + 1 ≠ Config.tiny.threshold) := by decide
theorem witness_DisabledEventsAreNoSteps : (fresh .tiny).run = false ∧ (fresh .tiny).capEn = false := by decide
theorem witness_EmergencyStopPriority : (ticking .tiny 2 .none .cw).run = true := by decide
/-- n = T - 1; a threshold of 2 or more; T = 1 without back-away. -/
theorem witness_ConsecutiveAssertedSamples :
    ((running .tiny).run = true ∧ (running .tiny).debCnt = 0 ∧ 2 < Config.tiny.threshold) ∧
    2 ≤ Config.tiny.threshold ∧
    ((running tinyOneNoBackaway).run = true ∧ tinyOneNoBackaway.backaway = false) := by decide
theorem witness_BackAwayReach :
    (Invariants (ticking .tiny 2 .none .cw) ∧ (ticking .tiny 2 .none .cw).run = true ∧
      2 ≤ Config.tiny.threshold ∧ (ticking .tiny 2 .none .cw).debCnt.toNat + 1 = Config.tiny.threshold) ∧
    (ticking .tiny 0 .cw .ccw).debCnt = 0 ∧
    (Invariants (ticking tinyOne 0 .cw .ccw) ∧ tinyOne.threshold = 1 ∧ tinyOne.backaway = true ∧
      (ticking tinyOne 0 .cw .ccw).stopDir ≠ .none) :=
  ⟨⟨witness_ticking, by decide⟩, by decide, witness_latched, by decide⟩
theorem witness_StopStateMachine : Invariants (running .tiny) ∧
    exec (.stop 0) (running .tiny) = .next (applyStep (running .tiny) (.stop 0)) := ⟨witness_running, rfl⟩
theorem witness_OnlyReconfigureRestarts :
    exec (.reconfigure 10000) (fresh .tiny) = .next (applyStep (fresh .tiny) (.reconfigure 10000)) ∧
    (fresh .tiny).run = false ∧ (applyStep (fresh .tiny) (.reconfigure 10000)).run = true := ⟨rfl, by decide, by decide⟩
theorem witness_FailedReconfigureAndAutomaticStopStopMotor :
    exec (.tick true false) (ticking .tiny 2 .none .cw) = .next (applyStep (ticking .tiny 2 .none .cw) (.tick true false)) ∧
    (applyStep (ticking .tiny 2 .none .cw) (.tick true false)).stopReason = .endstop := ⟨rfl, by decide⟩
theorem witness_RestartIntoAssertedEndstop_stop :
    exec (.tick true false) (ticking .tiny 2 .none .cw) = .next (applyStep (ticking .tiny 2 .none .cw) (.tick true false)) ∧
    (applyStep (ticking .tiny 2 .none .cw) (.tick true false)).run = false ∧
    (applyStep (ticking .tiny 2 .none .cw) (.tick true false)).stopReason = .endstop := ⟨rfl, by decide, by decide⟩
theorem witness_RestartIntoAssertedEndstop : (fresh .tiny).debCnt = 0 ∧ 2 ≤ (fresh .tiny).cfg.threshold ∧
    exec (.reconfigure 10000) (fresh .tiny) = .next (applyStep (fresh .tiny) (.reconfigure 10000)) ∧
    (applyStep (fresh .tiny) (.reconfigure 10000)).run = true := ⟨by decide, by decide, rfl, by decide⟩

/-- An infinite run: the running timer, stopped by its first TICK, then NOPs. -/
def stoppedRun : Nat → State
  | 0 => running .tiny
  | _ + 1 => applyStep (running .tiny) (.tick false true)
/-- Its steps. -/
def stoppedSteps : Nat → Instr
  | 0 => .tick false true
  | _ + 1 => .nop 0
theorem witness_FairEmergencyStopHalts : eventRun stoppedRun stoppedSteps ∧ timerFair stoppedRun stoppedSteps ∧
    (∀ n e f, stoppedSteps n = .tick e f → f = true) := by
  refine ⟨?_, ?_, ?_⟩
  · intro n; cases n <;> rfl
  · exact fun n => ⟨n + 1, by omega, .inl rfl⟩
  · intro n e f h; cases n <;> simp_all [stoppedSteps]

/-- For the statements about BTN, ROT and runs of them: ButtonEventsCoalesce, EveryRotaryCountDrainedOnce,
BtnAccumulatesSamples, RotCountsGatedEdges and the net sum of DrainRotaryReadsAndClears. -/
theorem witness_capture : (capturing .tiny).capEn = true ∧ (capturing .tiny).rotAcc = 0 ∧
    (fresh .tiny).capEn = false := by decide
theorem witness_RotCountsGatedEdges : idlePorts { rotSec := true } = true ∧
    rotDue { capturing .tiny with secP := true } = true := by decide
/-- A running cycle with its TICK, BTN and ROT all due (R237): no command, one ordered before the
events, one after them. -/
def busy : State :=
  { running .tiny with capEn := true, tcnt := 2, endS := true, settleCtr := 1, btnS := 2, btnAcc := 1, secP := true }
theorem witness_busy : Invariants busy := by constructor <;> decide
theorem witness_CyclesRefineEventLevel : (capturing .tiny).capEn = true ∧
    (Invariants busy ∧ idlePorts {} = true ∧ decodeCommand 0x200000000 = .initInputs 0 ∧
      decodeCommand 0x400000000 = .stop 0) := ⟨by decide, witness_busy, by decide⟩
theorem witness_CycleRunsSampledEvents :
    (idlePorts {} = true ∧ busy.run = true ∧ busy.psc.toNat + 1 = busy.cfg.divisor busy.divSel.toNat ∧
      busy.tcnt.toNat + 1 = busy.tickCount.toNat ∧ busy.capEn = true ∧ busy.secS ≠ busy.secP) ∧
    (let s := runCycles [{ endstop := true }, {}] (running .tiny)
     s.run = true ∧ s.psc.toNat + 1 = s.cfg.divisor s.divSel.toNat ∧
      s.tcnt.toNat + 1 = s.tickCount.toNat) := by decide
/-- All three events of the cycle happen, and each uses its own samples (R154, R183, R187, R190). -/
theorem test_cycle_events : projectRun [{}] busy = [.tick true false, .btn 2, .rot false false] ∧
    ((cycle {} busy).debCnt, (cycle {} busy).btnAcc, (cycle {} busy).rotAcc) = (1, 3, -1) := by decide
theorem witness_CaptureCommutesWithTimingEngine :
    (∃ b, Instr.btn 1 = .btn b) ∧ (∃ e f, Instr.tick true false = .tick e f) ∧
    Instr.drainButtons 0 = .drainButtons 0 := ⟨⟨_, rfl⟩, ⟨_, _, rfl⟩, rfl⟩
theorem witness_OnlyListedRegistersWritten :
    exec (.initTimer 0) (running .tiny) = .next (applyStep (running .tiny) (.initTimer 0)) ∧
    writes .desiredDir (.initTimer 0) = false := ⟨rfl, by decide⟩
theorem witness_HiddenRegistersFrame :
    exec (.tick true false) (running .tiny) = .next (applyStep (running .tiny) (.tick true false)) ∧
    Instr.tick true false ≠ .rst ∧
    step (scheduled .tiny [.cycle {}]) = .next (cycle {} (scheduled .tiny [])) := ⟨rfl, by decide, rfl⟩
theorem witness_StepKeepsInvariant : Invariants (schedule (.trace 0x1000000001) (running .tiny)) ∧
    step (schedule (.trace 0x1000000001) (running .tiny)) = .next (applyStep (running .tiny) (.tick true false)) :=
  ⟨by constructor <;> decide, rfl⟩
theorem witness_TimerPhaseAdvances : Invariants (running .tiny) ∧ (running .tiny).run = true ∧
    idlePorts { endstop := true } = true := ⟨witness_running, by decide, by decide⟩
theorem witness_ComparePeriodIsExact : Invariants (running .tiny) ∧ (running .tiny).run = true ∧
    (running .tiny).psc = 0 ∧ (running .tiny).tcnt = 0 ∧ [({} : Ports), {}].all idlePorts = true ∧
    [({} : Ports), {}].length < comparePeriod (running .tiny) := ⟨witness_running, by decide⟩
theorem witness_PulseHoldsItsWidth :
    (cycle {} { running .tiny with pwCtr := 2 }).out.pulse = false ∧
    (cycle {} { running .tiny with tcnt := 2 }).out.pulse = true ∧
    { running .tiny with pwCtr := 2 }.pwCtr.toNat = Config.tiny.pwCycles ∧
    noPulse [{}, {}] { running .tiny with pwCtr := 2 } = true := by decide
/-- Both clauses: a period of 3 cycles is longer than the pulse of 2, a period of 2 is not. -/
theorem witness_PulsesStaySeparate :
    (Invariants (running .tiny) ∧ 2 + 1 = comparePeriod (running .tiny) ∧ pulseFits (running .tiny)) ∧
    (Invariants { running .tiny with tickCount := 2, pwCtr := 2 } ∧
      1 + 1 = comparePeriod { running .tiny with tickCount := 2, pwCtr := 2 } ∧
      ¬ pulseFits { running .tiny with tickCount := 2, pwCtr := 2 } ∧
      { running .tiny with tickCount := 2, pwCtr := 2 }.pwCtr.toNat = Config.tiny.pwCycles) :=
  ⟨⟨witness_running, by decide, by show 2 < 3; decide⟩,
    by constructor <;> decide, by decide, by show ¬ 2 < 2; decide, by decide⟩
theorem witness_SettleDelayIsExact : (capturing .tiny).settleCtr = 0 ∧
    btnEdge { capturing .tiny with btnS := 1 } = true ∧ 4 ≤ Config.tiny.settleCycles := by decide
/-- The clauses on a delay that runs: one that ends in this very cycle, with an edge (BTN_S differs from
BTN_P in the state) and without, and one with a pending edge; four quiet cycles follow. -/
theorem witness_SettleDelayIsExact_pending :
    (∀ s ∈ [{ capturing .tiny with settleCtr := 1, btnS := 1 }, { capturing .tiny with settleCtr := 1 },
        { capturing .tiny with settleCtr := 1, btnPend := true }],
      s.capEn = true ∧ s.settleCtr ≠ 0 ∧ [({} : Ports)].length = s.settleCtr.toNat ∧
      [({} : Ports), {}, {}, {}].length = s.cfg.settleCycles) ∧
    edgeSeen [{}] { capturing .tiny with settleCtr := 1, btnS := 1 } = true ∧
    edgeSeen [{}] { capturing .tiny with settleCtr := 1 } = false ∧
    edgeSeen [{}, {}, {}, {}] (runCycles [{}] { capturing .tiny with settleCtr := 1 }) = false ∧
    edgeSeen [{}, {}, {}, {}] (runCycles [{}] { capturing .tiny with settleCtr := 1, btnPend := true }) = false := by
  decide
/-- With the edge made before (`BTN_M` already at the new level) the following delay is quiet. -/
theorem witness_SettleDelayIsExact_edge : edgeSeen [{}, {}, {}, {}]
    (runCycles [{}] { capturing .tiny with settleCtr := 1, btnP := 1 }) = false ∧
    edgeSeen [{}] { capturing .tiny with settleCtr := 1, btnP := 1 } = true := by decide
theorem witness_SynchronisersDelayTwoCycles : ({ endstop := true } : Ports).rst = false := by decide
theorem witness_CommandOrderWithinCycle :
    decodeCommand 0x000000000 = .nop 0 ∧ decodeCommand 0x200000000 = .initInputs 0 ∧
    decodeCommand 0x300002710 = .reconfigure 10000 ∧ decodeCommand 0x500000003 = .setDir 0 3 := by decide
theorem witness_NoCommandNoResponse : ({ cmdWord := 0xA00000000 } : Ports).cmdValid = false := by decide

end Sys2Proof.Tests
end

section
/-! The invariants of R43 and what every step keeps of the registers: what a completed step or entry
of the schedule can do, the frame of R38, the invariants operation by operation, and the
commutation of capture with the timing engine (R39). -/

namespace Sys2Proof.Machine

/-! ### What a completed step can do -/

/-- Everything a step that completes can do to the registers: one constructor for each writer of R38,
and one for all the steps that only answer. -/
inductive StepEffect (s : State) : Instr → State → Prop
  | answer {i : Instr} (o : Outputs) (readOnly : ∀ r, writes r i = false) : StepEffect s i (drive o s)
  | initTimer (arg : Word) : StepEffect s (.initTimer arg) (drive (response 0) (initTimingEngine s))
  | initInputs (arg : Word) : StepEffect s (.initInputs arg) (drive (response 0) (enableCapture s))
  | reconfigure (rate : Word) : StepEffect s (.reconfigure rate) (reconfigureTo (rateOf rate) s)
  | stop (arg : Word) : StepEffect s (.stop arg) (drive (response 0) (stopTimer s))
  | setDir (ignored : BitVec 30) (d : BitVec 2) (dir : Dir) :
      StepEffect s (.setDir ignored d) (drive (response 0) (setDesired dir s))
  | setDirReserved (ignored : BitVec 30) (d : BitVec 2) :
      StepEffect s (.setDir ignored d) (drive errorResponse s)
  | clearStopReason (arg : Word) :
      StepEffect s (.clearStopReason arg) (drive (response 0) (clearReason s))
  | drainButtons (arg : Word) :
      StepEffect s (.drainButtons arg) (drive (response (s.btnAcc.setWidth 32)) (clearButtons s))
  | drainRotary (arg : Word) :
      StepEffect s (.drainRotary arg) (drive (response s.rotAcc) (clearRotary s))
  | tick (e f : Bool) (running : s.run = true) : StepEffect s (.tick e f) (tickDecision e f s)
  | btn (b : Buttons) (capturing : s.capEn = true) :
      StepEffect s (.btn b) (drive silent (accumulateButtons b s))
  | rot (q p : Bool) (capturing : s.capEn = true) :
      StepEffect s (.rot q p) (drive silent (accumulateRotary q p s))
  | rst : StepEffect s .rst (resetRegisters s)

/-- A step that completes has the effect its instruction names. -/
theorem stepEffect_of_exec {i : Instr} {s t : State} (h : exec i s = .next t) : StepEffect s i t := by
  have henabled := enabled_of_exec_next h
  obtain rfl := applyStep_of_next h
  cases i with
  | tick e f =>
    have hrun : s.run = true := henabled
    rw [applyStep_tick, if_pos hrun]; exact .tick e f hrun
  | btn b =>
    have hcap : s.capEn = true := henabled
    rw [applyStep_btn, if_pos hcap]; exact .btn b hcap
  | rot q p =>
    have hcap : s.capEn = true := henabled
    rw [applyStep_rot, if_pos hcap]; exact .rot q p hcap
  | setDir g d =>
    rcases execSetDir_cases g d s with ⟨_, hset⟩ | ⟨dir, _, _, hset⟩
    · rw [applyStep_of_next (i := .setDir g d) hset]; exact .setDirReserved g d
    · rw [applyStep_of_next (i := .setDir g d) hset]; exact .setDir g d dir
  | initTimer arg => exact .initTimer arg
  | initInputs arg => exact .initInputs arg
  | reconfigure rate => exact .reconfigure rate
  | stop arg => exact .stop arg
  | clearStopReason arg => exact .clearStopReason arg
  | drainButtons arg => exact .drainButtons arg
  | drainRotary arg => exact .drainRotary arg
  | rst => exact .rst
  | _ => exact .answer _ fun _ => rfl

/-- Everything `step` can do when it answers a state: one event-level step, or one clock cycle, of the
head of the schedule. -/
theorem step_next_cases {s t : State} (h : step s = .next t) :
    (∃ tw rest i, s.inputs = .trace tw :: rest ∧ decode tw = .ok i ∧
      exec i { s with inputs := rest } = .next t) ∨
    (∃ p rest, s.inputs = .cycle p :: rest ∧ t = cycle p { s with inputs := rest }) := by
  cases hin : s.inputs with
  | nil => simp [step, hin] at h
  | cons x rest =>
    simp only [step, hin] at h
    cases x with
    | cycle p =>
      simp only [runStimulus, Host.Outcome.next.injEq] at h
      exact .inr ⟨p, rest, rfl, h.symm⟩
    | trace tw =>
      simp only [runStimulus, runTrace] at h
      cases hd : decode tw with
      | ok i => exact .inl ⟨tw, rest, i, rfl, hd, by simpa [hd] using h⟩
      | error e => simp [hd] at h

/-! ### What a cycle's own update leaves in the counters -/

/-- The prescale counter counts while the timer runs and wraps at the divisor (R140). -/
theorem advanceTimer_psc (s : State) : (advanceTimer s).psc =
    if s.run = true then (if prescaleWraps s = true then 0 else s.psc + 1) else s.psc := by
  unfold advanceTimer
  split
  · split
    · split <;> rfl
    · rfl
  · rfl

/-- The timer count counts the wraps of a running prescaler and restarts at the compare match (R140). -/
theorem advanceTimer_tcnt (s : State) : (advanceTimer s).tcnt =
    if s.run = true ∧ prescaleWraps s = true then (if countMatches s = true then 0 else s.tcnt + 1)
    else s.tcnt := by
  unfold advanceTimer
  by_cases hrun : s.run = true
  · by_cases hwrap : prescaleWraps s = true
    · simp only [hrun, hwrap, and_self, if_true]
      split <;> rfl
    · simp [hrun, hwrap]
  · simp [hrun]

/-- The pulse hold counter counts down to 0 (R148). -/
theorem advancePulse_pwCtr (s : State) : (advancePulse s).pwCtr.toNat = s.pwCtr.toNat - 1 := by
  unfold advancePulse
  split
  · next hzero => simp [hzero]
  · bv_omega

/-- The settle counter is loaded on an edge from idle, reloaded at its end when a sample is owed, and
counts down otherwise (R183). -/
theorem advanceSettle_settleCtr (s : State) : (advanceSettle s).settleCtr =
    if s.settleCtr = 0 then (if btnEdge s = true then BitVec.ofNat 32 s.cfg.settleCycles else 0)
    else if s.settleCtr = 1 then
      (if (btnEdge s || s.btnPend) = true then BitVec.ofNat 32 s.cfg.settleCycles else 0)
    else s.settleCtr - 1 := by
  unfold advanceSettle
  split
  · next hidle => split <;> simp [hidle]
  · split <;> split <;> rfl

/-- The pending flag is paid at the delay's end and set by an edge before it (R183). -/
theorem advanceSettle_btnPend (s : State) : (advanceSettle s).btnPend =
    if s.settleCtr = 0 then s.btnPend else if s.settleCtr = 1 then false
    else (btnEdge s || s.btnPend) := by
  unfold advanceSettle
  split
  · split <;> rfl
  · split
    · split
      · rfl
      · next hnone => simpa using (Bool.or_eq_false_iff.mp (Bool.eq_false_iff.mpr hnone)).2
    · split
      · next hedge => simp [hedge]
      · next hedge => simp [hedge]

/-! ### The writers of R38 -/

/-- Settles O44, effect by effect: each operation's field lemmas and the table of R38 agree. -/
theorem onlyListedRegistersWritten : Obligations.OnlyListedRegistersWritten := by
  unfold Obligations.OnlyListedRegistersWritten
  intro i s t h
  cases stepEffect_of_exec h with
  | answer o _ => simp
  | _ => simp [writes]

/-- Settles O35: of the writers of `RUN` only RECONFIGURE writes a 1, and only where the decoder
programs a pair. -/
theorem onlyReconfigureRestarts : Obligations.OnlyReconfigureRestarts := by
  unfold Obligations.OnlyReconfigureRestarts
  intro i s t h stopped restarted
  cases stepEffect_of_exec h with
  | reconfigure rate =>
    rcases reconfigureTo_cases (rateOf rate) s with
      ⟨_, ht⟩ | ⟨_, _, ht⟩ | ⟨_, _, ht⟩ | ⟨index, count, hrate, _, ht⟩
    · simp [ht] at restarted
    · simp [ht] at restarted
    · simp [ht] at restarted
    · refine ⟨rate, rfl, ?_, by simp [ht, response, rspOk], by simp [ht]⟩
      rintro rfl
      exact hrate rfl
  | tick e f running => simp [stopped] at running
  | rst => cases restarted
  | _ => simp [stopped] at restarted

/-! ### The invariants after reset -/

/-- The invariants hold after reset: every range of R43 is a range of R12 that contains 0. -/
theorem invariants_resetWith (c : Config) (ins : List Stimulus) :
    Invariants (State.resetWith c ins) where
  debounceBelow := c.bounds.threshold.1
  runningCount := nofun
  selectInTable := c.bounds.ndiv.1
  runningReason := nofun
  countingNoLatch := fun _ => rfl
  prescaleBelow := (c.bounds.divisor 0 c.bounds.ndiv.1).1
  countBelow := Nat.zero_lt_one
  pulseBelow := Nat.zero_le _
  settleBelow := Nat.zero_le _
  settleEnabled := fun h => absurd rfl h
  pendingSettles := nofun
  disabledEmpty := fun _ => ⟨rfl, rfl⟩

/-- Settles O47: both states are reset states of a configuration and a schedule. -/
theorem resetHasInvariant : Obligations.ResetHasInvariant :=
  ⟨invariants_resetWith Config.build [], invariants_resetWith⟩

/-! ### What each operation keeps of the invariants -/

namespace Invariants

variable {s : State}

theorem drive (h : Invariants s) (o : Outputs) : Invariants (drive o s) := { h with }

theorem withInputs (h : Invariants s) (ins : List Stimulus) : Invariants { s with inputs := ins } :=
  { h with }

theorem setDesired (h : Invariants s) (d : Dir) : Invariants (setDesired d s) := { h with }

theorem stopTimer (h : Invariants s) : Invariants (stopTimer s) :=
  { h with runningCount := nofun, runningReason := nofun }

theorem clearReason (h : Invariants s) : Invariants (clearReason s) :=
  { h with runningReason := fun _ => rfl }

theorem takeStop (h : Invariants s) (cause : StopReason) : Invariants (takeStop cause s) :=
  { h with runningCount := nofun, runningReason := nofun }

theorem enableCapture (h : Invariants s) : Invariants (enableCapture s) :=
  { h with settleEnabled := fun _ => rfl, disabledEmpty := nofun }

theorem clearButtons (h : Invariants s) : Invariants (clearButtons s) :=
  { h with disabledEmpty := fun hoff => ⟨rfl, (h.disabledEmpty hoff).2⟩ }

theorem clearRotary (h : Invariants s) : Invariants (clearRotary s) :=
  { h with disabledEmpty := fun hoff => ⟨(h.disabledEmpty hoff).1, rfl⟩ }

/-- BTN happens with capture enabled only, so the empty accumulators of a disabled capture stay. -/
theorem accumulateButtons (h : Invariants s) (hon : s.capEn = true) (b : Buttons) :
    Invariants (accumulateButtons b s) :=
  { h with disabledEmpty := fun hoff => by simp [hon] at hoff }

theorem accumulateRotary (h : Invariants s) (hon : s.capEn = true) (q p : Bool) :
    Invariants (accumulateRotary q p s) :=
  { h with disabledEmpty := fun hoff => by simp [hon] at hoff }

/-- INIT_TIMER selects the table's first divisor and zeroes all that counts against it. -/
theorem initTimingEngine (h : Invariants s) : Invariants (initTimingEngine s) :=
  { h with
    debounceBelow := s.cfg.bounds.threshold.1
    runningCount := nofun
    selectInTable := s.cfg.bounds.ndiv.1
    runningReason := nofun
    countingNoLatch := fun _ => rfl
    prescaleBelow := (s.cfg.bounds.divisor 0 s.cfg.bounds.ndiv.1).1
    countBelow := Nat.zero_lt_one }

/-- A pulse loads the hold counter with its bound, which fits the register. -/
theorem emitPulse (h : Invariants s) : Invariants (emitPulse s) :=
  { h with
    pulseBelow := by
      simp only [emitPulse_pwCtr, emitPulse_cfg, BitVec.toNat_ofNat]
      exact Nat.mod_le _ _ }

/-- Programming a pair of the decoder's ranges (R108) keeps the invariants: the pair fits its
registers, and the counters restart at 0. -/
theorem startTimer (h : Invariants s) {index count : Nat} (hindex : index < s.cfg.ndiv)
    (hpos : 1 ≤ count) (hmax : count ≤ 255) : Invariants (startTimer index count s) := by
  have hsel : (BitVec.ofNat 8 index).toNat = index :=
    (BitVec.toNat_ofNat ..).trans <| Nat.mod_eq_of_lt (by have := s.cfg.bounds.ndiv.2; omega)
  have hcount : (BitVec.ofNat 8 count).toNat = count := (BitVec.toNat_ofNat ..).trans <| Nat.mod_eq_of_lt (by omega)
  exact { h with
    runningCount := fun _ => by simpa only [startTimer_tickCount, hcount] using hpos
    selectInTable := by simpa only [startTimer_divSel, startTimer_cfg, hsel] using hindex
    runningReason := fun _ => rfl
    prescaleBelow := by
      simp only [startTimer_divSel, startTimer_cfg, startTimer_psc, hsel]
      exact (s.cfg.bounds.divisor index hindex).1
    countBelow := by simp }

/-- Writing a debounce count below the threshold keeps the invariants, if no latch is written beside
a count that is not 0. -/
theorem writeDebounce (h : Invariants s) {latch : Dir} {count : Nat} (hcount : count < s.cfg.threshold)
    (hlatch : 1 ≤ count → latch = .none) : Invariants (writeDebounce latch count s) := by
  have hfits : (BitVec.ofNat 16 count).toNat = count :=
    (BitVec.toNat_ofNat ..).trans <| Nat.mod_eq_of_lt (by have := s.cfg.bounds.threshold.2; omega)
  exact { h with
    debounceBelow := by simpa only [writeDebounce_debCnt, writeDebounce_cfg, hfits] using hcount
    countingNoLatch := by simpa only [writeDebounce_debCnt, writeDebounce_stopDir, hfits] using hlatch }

/-- A sample moves a count below the threshold to at most the threshold. -/
theorem debounceCount_le (h : Invariants s) (e : Bool) : debounceCount e s ≤ s.cfg.threshold := by
  have := h.debounceBelow
  unfold debounceCount
  split <;> omega

/-- Every outcome of a TICK: the debounce write is a threshold tick's (count 0) or one of a count
still below the threshold without a latch. -/
theorem tickDecision (h : Invariants s) (e f : Bool) : Invariants (tickDecision e f s) := by
  have hwritten : Invariants (Machine.writeDebounce
      (if debounceCount e s = s.cfg.threshold then latchedDir s else .none)
      (if debounceCount e s = s.cfg.threshold then 0 else debounceCount e s) s) := by
    by_cases hat : debounceCount e s = s.cfg.threshold
    · rw [if_pos hat, if_pos hat]
      exact h.writeDebounce s.cfg.bounds.threshold.1 (by simp)
    · rw [if_neg hat, if_neg hat]
      exact h.writeDebounce (lt_of_le_of_ne (h.debounceCount_le e) hat) fun _ => rfl
  rcases tickDecision_cases e f s with ⟨_, _, ht⟩ | ⟨_, _, ht⟩ | ⟨_, _, ht⟩
  · rw [ht]; exact hwritten.takeStop .endstop
  · rw [ht]; exact hwritten.takeStop .emergencyStop
  · rw [ht]; exact hwritten.emitPulse

end Invariants

/-- The first option that reaches the delay has a count period no longer than it: it is option 0, or
the one before it misses by more than the gap of R12 (c). -/
theorem countScaled_le_of_first_reaching {c : Config} {rate i : Nat} (hi : i < c.ndiv)
    (hslow : countScaled c rate (c.divisor 0) ≤ delayScaled c rate)
    (hfirst : ∀ j < i, reaches c rate (c.divisor j) = false) :
    countScaled c rate (c.divisor i) ≤ delayScaled c rate := by
  cases i with
  | zero => exact hslow
  | succ j =>
    have hmiss := (reaches_eq_false c rate (c.divisor j)).mp (hfirst j (by omega))
    exact (countScaled_succ_le rate hi).trans hmiss.le

/-- R108: a programmed pair has a count of 1 to 255 and an index of the table. -/
theorem decodeRate_program_bounds {c : Config} {rate i n : Nat} (hrate : 0 < rate)
    (h : decodeRate c rate = .program i n) : 1 ≤ n ∧ n ≤ 255 ∧ i < c.ndiv := by
  rcases decodeRate_cases c rate with ⟨_, hd⟩ | ⟨_, _, hd⟩ | ⟨k, hslow, hk, hreach, hfirst, hd⟩
  · simp [hd] at h
  · simp [hd] at h
  · rw [hd, RateResult.program.injEq] at h
    obtain ⟨rfl, rfl⟩ := h
    have hpos := countScaled_pos hrate hk
    have hlow : 1 ≤ delayScaled c rate / countScaled c rate (c.divisor k) :=
      Int.le_ediv_of_mul_le hpos
        (by simpa using countScaled_le_of_first_reaching hk hslow hfirst)
    have hhigh : delayScaled c rate / countScaled c rate (c.divisor k) ≤ 255 :=
      Int.ediv_le_of_le_mul hpos ((reaches_eq_true _ _ _).mp hreach)
    omega

/-! ### Every step keeps the invariants -/

namespace Invariants

variable {s : State}

theorem reconfigureTo (h : Invariants s) (rate : Nat) : Invariants (reconfigureTo rate s) := by
  rcases reconfigureTo_cases rate s with
    ⟨_, ht⟩ | ⟨_, _, ht⟩ | ⟨_, _, ht⟩ | ⟨index, count, hrate, hdecode, ht⟩
  · rw [ht]; exact h.stopTimer.clearReason.drive _
  · rw [ht]; exact h.stopTimer.drive _
  · rw [ht]; exact h.stopTimer.drive _
  · obtain ⟨hpos, hmax, hindex⟩ := decodeRate_program_bounds (Nat.pos_of_ne_zero hrate) hdecode
    rw [ht]; exact (h.startTimer hindex hpos hmax).drive _

/-- Every event-level step keeps the invariants. -/
theorem exec {t : State} (h : Invariants s) {i : Instr} (ht : exec i s = .next t) : Invariants t := by
  cases stepEffect_of_exec ht with
  | answer o _ => exact h.drive o
  | initTimer _ => exact h.initTimingEngine.drive _
  | initInputs _ => exact h.enableCapture.drive _
  | reconfigure rate => exact h.reconfigureTo _
  | stop _ => exact h.stopTimer.drive _
  | setDir _ _ dir => exact (h.setDesired dir).drive _
  | setDirReserved _ _ => exact h.drive _
  | clearStopReason _ => exact h.clearReason.drive _
  | drainButtons _ => exact h.clearButtons.drive _
  | drainRotary _ => exact h.clearRotary.drive _
  | tick e f _ => exact h.tickDecision e f
  | btn b capturing => exact (h.accumulateButtons capturing b).drive _
  | rot q p capturing => exact (h.accumulateRotary capturing q p).drive _
  | rst => exact invariants_resetWith _ _

/-- A step of a cycle's list keeps the invariants, enabled or not. -/
theorem applyStep (h : Invariants s) (i : Instr) : Invariants (applyStep s i) := by
  unfold Machine.applyStep
  split
  · next t ht => exact h.exec ht
  · exact h

/-! The cycle's own update of the hidden registers. -/

/-- The prescale counter wraps before it reaches the divisor (R140). -/
theorem advanceTimer_prescaleBelow (h : Invariants s) :
    (advanceTimer s).psc.toNat < s.cfg.divisor s.divSel.toNat := by
  have hpsc := h.prescaleBelow
  have hdiv := (s.cfg.bounds.divisor _ h.selectInTable).2
  rw [advanceTimer_psc]
  split
  · split
    · exact Nat.zero_lt_of_lt hpsc
    · next hwrap =>
      have hne : s.psc.toNat + 1 ≠ s.cfg.divisor s.divSel.toNat := by simpa [prescaleWraps] using hwrap
      bv_omega
  · exact hpsc

/-- The timer count restarts before it reaches the compare value (R140). -/
theorem advanceTimer_countBelow (h : Invariants s) :
    (advanceTimer s).tcnt.toNat < max s.tickCount.toNat 1 := by
  have htcnt := h.countBelow
  rw [advanceTimer_tcnt]
  split
  · next hcounts =>
    have hpos := h.runningCount hcounts.1
    split
    · exact Nat.zero_lt_of_lt htcnt
    · next hmatch =>
      have hne : s.tcnt.toNat + 1 ≠ s.tickCount.toNat := by simpa [countMatches] using hmatch
      have hwidth := s.tickCount.isLt
      bv_omega
  · exact htcnt

/-- The settle counter is loaded with its bound or counts down (R183). -/
theorem advanceSettle_settleBelow (h : Invariants s) :
    (advanceSettle s).settleCtr.toNat ≤ s.cfg.settleCycles := by
  have hbound := h.settleBelow
  have hload : (BitVec.ofNat 32 s.cfg.settleCycles).toNat ≤ s.cfg.settleCycles := Nat.mod_le _ _
  rw [advanceSettle_settleCtr]
  split
  · split
    · exact hload
    · exact Nat.zero_le _
  · split
    · split
      · exact hload
      · exact Nat.zero_le _
    · next hidle _ => bv_omega

/-- A settle delay starts on a gated edge only, and runs on only with capture enabled. -/
theorem advanceSettle_settleEnabled (h : Invariants s) (hrun : (advanceSettle s).settleCtr ≠ 0) :
    s.capEn = true := by
  by_cases hidle : s.settleCtr = 0
  · have hedge : btnEdge s = true := by
      by_contra hno
      exact hrun (by simp [advanceSettle_settleCtr, hidle, hno])
    exact (Bool.and_eq_true_iff.mp hedge).1
  · exact h.settleEnabled hidle

/-- A sample is owed only beside a delay that runs on. -/
theorem advanceSettle_pendingSettles (h : Invariants s) (hpend : (advanceSettle s).btnPend = true) :
    (advanceSettle s).settleCtr ≠ 0 := by
  rw [advanceSettle_btnPend] at hpend
  rw [advanceSettle_settleCtr]
  split at hpend
  · next hidle => exact absurd hidle (h.pendingSettles hpend)
  · split at hpend
    · cases hpend
    · next hidle hlast =>
      rw [if_neg hidle, if_neg hlast]
      bv_omega

/-- The update of the hidden registers in a cycle without reset keeps the invariants. -/
theorem advanceHidden (h : Invariants s) (p : Ports) : Invariants (advanceHidden p s) where
  debounceBelow := by simpa using h.debounceBelow
  runningCount := by simpa using h.runningCount
  selectInTable := by simpa using h.selectInTable
  runningReason := by simpa using h.runningReason
  countingNoLatch := by simpa using h.countingNoLatch
  prescaleBelow := by simpa using h.advanceTimer_prescaleBelow
  countBelow := by simpa using h.advanceTimer_countBelow
  pulseBelow := by
    rw [advanceHidden_pwCtr, advancePulse_pwCtr, advanceHidden_cfg]
    exact (Nat.sub_le _ _).trans h.pulseBelow
  settleBelow := by simpa using h.advanceSettle_settleBelow
  settleEnabled := by simpa using h.advanceSettle_settleEnabled
  pendingSettles := by simpa using h.advanceSettle_pendingSettles
  disabledEmpty := by simpa using h.disabledEmpty

/-- Every clock cycle keeps the invariants. -/
theorem cycle (h : Invariants s) (p : Ports) : Invariants (cycle p s) := by
  cases hrst : p.rst with
  | true => rw [cycle_of_rst hrst]; exact invariants_resetWith _ _
  | false =>
    rw [cycle_of_not_rst hrst]
    exact (foldl_cycleSteps_keeps (fun i _ _ hu => hu.applyStep i) p s (h.advanceHidden p)).drive _

end Invariants

/-- Settles O46: the next entry of the schedule is an event-level step or a cycle, and both keep the
invariants. -/
theorem stepKeepsInvariant : Obligations.StepKeepsInvariant := by
  unfold Obligations.StepKeepsInvariant
  intro s t h ht
  rcases step_next_cases ht with ⟨_, rest, _, _, _, hexec⟩ | ⟨p, rest, _, rfl⟩
  · exact (h.withInputs rest).exec hexec
  · exact (h.withInputs rest).cycle p

/-! ### The machine right after reset -/

/-- Every response word of a machine after reset is 0. -/
theorem reads_resetWith (c : Config) (ins : List Stimulus) :
    statusWord (State.resetWith c ins) = 0 ∧ timerCfgWord (State.resetWith c ins) = 0 ∧
    stopReasonWord (State.resetWith c ins) = 0 := by
  refine ⟨?_, ?_, rfl⟩
  · simp [statusWord, fieldAt, State.resetWith, dirCode, stopReasonCode]
  · simp [timerCfgWord, fieldAt, State.resetWith]

/-- Settles O28: the reads answer 0 and the drains write the zeros that are there; both enabling
conditions are off. -/
theorem resetStateReadsZero : Obligations.ResetStateReadsZero := by
  unfold Obligations.ResetStateReadsZero
  obtain ⟨hstatus, htimer, hreason⟩ := reads_resetWith Config.build []
  refine ⟨fun i hi => ?_, rfl, fun _ _ => rfl, fun _ => rfl, fun _ _ => rfl, rfl⟩
  simp only [List.mem_cons, List.not_mem_nil, or_false] at hi
  rcases hi with rfl | rfl | rfl | rfl | rfl
  · simp only [exec, execGetStatus, State.reset, hstatus]; rfl
  · simp only [exec, execGetTimerCfg, State.reset, htimer]; rfl
  · simp only [exec, execGetStopReason, State.reset, hreason]; rfl
  · rfl
  · rfl

/-! ### Commutation of capture with the timing engine (R39) -/

/-- The steps of the timing engine: TICK and the commands that read or write its registers (R39). -/
def isTimingStep : Instr → Bool
  | .tick _ _ | .initTimer _ | .reconfigure _ | .stop _ | .setDir _ _ | .clearStopReason _
  | .getTimerCfg _ | .getStopReason _ => true
  | _ => false

/-- A step of the capture logic: up to its outputs it is an update `k`, enabled by `CAP_EN` at most,
that leaves `RUN` alone and commutes with every operation of the timing engine. -/
structure CaptureStep (c : Instr) (k : State → State) : Prop where
  enabled_congr : ∀ {s t : State}, s.capEn = t.capEn → enabled c s = enabled c t
  effect : ∀ {s : State}, enabled c s = true → quiet (applyStep s c) = quiet (k s)
  tick : ∀ e f s, tickDecision e f (k s) = k (tickDecision e f s)
  run : ∀ s, (k s).run = s.run := by intros; rfl
  cfg : ∀ s, (k s).cfg = s.cfg := by intros; rfl
  drive : ∀ o s, k (drive o s) = drive o (k s) := by intros; rfl
  initTimingEngine : ∀ s, initTimingEngine (k s) = k (initTimingEngine s) := by intros; rfl
  startTimer : ∀ i n s, startTimer i n (k s) = k (startTimer i n s) := by intros; rfl
  stopTimer : ∀ s, stopTimer (k s) = k (stopTimer s) := by intros; rfl
  clearReason : ∀ s, clearReason (k s) = k (clearReason s) := by intros; rfl
  setDesired : ∀ d s, setDesired d (k s) = k (setDesired d s) := by intros; rfl

theorem captureStep_btn (b : Buttons) : CaptureStep (.btn b) (accumulateButtons b) where
  enabled_congr := fun h => h
  effect := fun {s} h => by
    have hcap : s.capEn = true := h
    rw [applyStep_btn, if_pos hcap]; rfl
  tick := fun e f s => tickDecision_accumulateButtons s e f b

theorem captureStep_rot (q p : Bool) : CaptureStep (.rot q p) (accumulateRotary q p) where
  enabled_congr := fun h => h
  effect := fun {s} h => by
    have hcap : s.capEn = true := h
    rw [applyStep_rot, if_pos hcap]; rfl
  tick := fun e f s => tickDecision_accumulateRotary s e f q p

theorem captureStep_drainButtons (arg : Word) : CaptureStep (.drainButtons arg) clearButtons where
  enabled_congr := fun _ => rfl
  effect := fun _ => rfl
  tick := fun e f s => tickDecision_clearButtons s e f

theorem captureStep_drainRotary (arg : Word) : CaptureStep (.drainRotary arg) clearRotary where
  enabled_congr := fun _ => rfl
  effect := fun _ => rfl
  tick := fun e f s => tickDecision_clearRotary s e f

/-- Outputs of the state before a step do not reach the registers after it. -/
theorem quiet_applyStep_congr {s t : State} (h : quiet s = quiet t) (i : Instr) :
    quiet (applyStep s i) = quiet (applyStep t i) := by
  calc quiet (applyStep s i) = quiet (applyStep (quiet s) i) := (drive_applyStep_drive i _ _ s).symm
    _ = quiet (applyStep (quiet t) i) := by rw [h]
    _ = quiet (applyStep t i) := drive_applyStep_drive i _ _ t

/-- A run of two steps completes exactly when each is enabled where it is taken. -/
theorem runSteps_pair (a b : Instr) (s u : State) : runSteps [a, b] s = .next u ↔
    enabled a s = true ∧ enabled b (applyStep s a) = true ∧ applyStep (applyStep s a) b = u := by
  constructor
  · intro h
    cases ha : exec a s with
    | next t =>
      cases hb : exec b t with
      | next v =>
        simp only [runSteps, ha, hb, Host.Outcome.next.injEq] at h
        rw [applyStep_of_next ha, applyStep_of_next hb]
        exact ⟨enabled_of_exec_next ha, enabled_of_exec_next hb, h⟩
      | fault r => simp [runSteps, ha, hb] at h
      | refused r => simp [runSteps, ha, hb] at h
    | fault r => simp [runSteps, ha] at h
    | refused r => simp [runSteps, ha] at h
  · rintro ⟨ha, hb, rfl⟩
    simp [runSteps, exec_next_of_enabled ha, exec_next_of_enabled hb]

/-- No step of the timing engine writes `CAP_EN` (R38). -/
theorem applyStep_timing_capEn {i : Instr} (hi : isTimingStep i = true) (s : State) :
    (applyStep s i).capEn = s.capEn := by
  have hnot : writes .capEn i = false := by cases i <;> simp [isTimingStep, writes] at hi ⊢
  cases he : exec i s with
  | next t =>
    obtain ⟨_, _, _, _, _, _, _, hcap, _, _⟩ := onlyListedRegistersWritten i s t he
    rw [applyStep_of_next he, hcap hnot]
  | fault r => simp [applyStep, he]
  | refused r => simp [applyStep, he]

/-- Of the enabling conditions, the timing engine's read `RUN` alone. -/
theorem enabled_timing_congr {i : Instr} (hi : isTimingStep i = true) {s t : State}
    (h : s.run = t.run) : enabled i s = enabled i t := by
  cases i with
  | tick e f => exact h
  | btn b => cases hi
  | rot q p => cases hi
  | _ => rfl

namespace CaptureStep

variable {c : Instr} {k : State → State}

theorem reconfigureTo (hc : CaptureStep c k) (rate : Nat) (s : State) :
    reconfigureTo rate (k s) = k (reconfigureTo rate s) := by
  unfold Machine.reconfigureTo applyRate
  rw [hc.cfg]
  split
  · rw [hc.drive, hc.stopTimer, hc.clearReason]
  · split
    · rw [hc.drive, hc.stopTimer]
    · rw [hc.drive, hc.stopTimer]
    · rw [hc.drive, hc.startTimer]

/-- A step of the timing engine on top of a capture update is the update on top of the step. -/
theorem quiet_applyStep (hc : CaptureStep c k) {i : Instr} (hi : isTimingStep i = true) (s : State) :
    quiet (applyStep (k s) i) = quiet (k (applyStep s i)) := by
  have hdrive (o o' : Outputs) (u : State) :
      quiet (Machine.drive o (k u)) = quiet (k (Machine.drive o' u)) := by
    rw [hc.drive]; rfl
  cases i with
  | tick e f =>
    rw [applyStep_tick, applyStep_tick, hc.run]
    split
    · rw [hc.tick]
    · rfl
  | setDir g d =>
    simp only [applyStep, exec, execSetDir]
    split
    · rw [hc.setDesired]; exact hdrive _ _ _
    · exact hdrive _ _ _
  | reconfigure rate => exact congrArg quiet (hc.reconfigureTo _ s)
  | initTimer arg =>
    simp only [applyStep, exec, execInitTimer, hc.initTimingEngine]; exact hdrive _ _ _
  | stop arg => simp only [applyStep, exec, execStop, hc.stopTimer]; exact hdrive _ _ _
  | clearStopReason arg =>
    simp only [applyStep, exec, execClearStopReason, hc.clearReason]; exact hdrive _ _ _
  | getTimerCfg arg => exact hdrive _ _ _
  | getStopReason arg => exact hdrive _ _ _
  | _ => cases hi

/-- A capture step and a step of the timing engine run in either order or in none, and leave the same
registers. -/
theorem runSteps_swap (hc : CaptureStep c k) {i : Instr} (hi : isTimingStep i = true) (s t : State) :
    (∃ u, runSteps [c, i] s = .next u ∧ quiet u = quiet t) ↔
      (∃ u, runSteps [i, c] s = .next u ∧ quiet u = quiet t) := by
  have hcap : enabled c (applyStep s i) = enabled c s :=
    hc.enabled_congr (applyStep_timing_capEn hi s)
  have hrun (he : enabled c s = true) : enabled i (applyStep s c) = enabled i s :=
    enabled_timing_congr hi ((congrArg State.run (hc.effect he)).trans (hc.run s))
  have hswap (he : enabled c s = true) :
      quiet (applyStep (applyStep s c) i) = quiet (applyStep (applyStep s i) c) := by
    calc quiet (applyStep (applyStep s c) i)
        = quiet (applyStep (k s) i) := quiet_applyStep_congr (hc.effect he) i
      _ = quiet (k (applyStep s i)) := hc.quiet_applyStep hi s
      _ = quiet (applyStep (applyStep s i) c) := (hc.effect (hcap.trans he)).symm
  simp only [runSteps_pair]
  constructor
  · rintro ⟨_, ⟨he, hei, rfl⟩, hu⟩
    exact ⟨_, ⟨(hrun he).symm.trans hei, hcap.trans he, rfl⟩, (hswap he).symm.trans hu⟩
  · rintro ⟨_, ⟨hei, he, rfl⟩, hu⟩
    have he' := hcap.symm.trans he
    exact ⟨_, ⟨he', (hrun he').trans hei, rfl⟩, (hswap he').trans hu⟩

end CaptureStep

/-- Settles O43: BTN, ROT and the two drains are capture steps, and each swaps with every step of the
timing engine. -/
theorem captureCommutesWithTimingEngine : Obligations.CaptureCommutesWithTimingEngine := by
  unfold Obligations.CaptureCommutesWithTimingEngine
  refine ⟨fun s t c i hc hi => ?_, fun s t e f a d hd => ?_⟩
  · have htiming : isTimingStep i = true := by
      rcases hi with ⟨_, _, rfl⟩ | ⟨_, rfl | rfl | rfl | rfl | rfl | rfl⟩ | ⟨_, _, rfl⟩ <;> rfl
    rcases hc with ⟨b, rfl⟩ | ⟨q, p, rfl⟩
    · exact (captureStep_btn b).runSteps_swap htiming s t
    · exact (captureStep_rot q p).runSteps_swap htiming s t
  · rcases hd with rfl | rfl
    · exact ((captureStep_drainButtons a).runSteps_swap rfl s t).symm
    · exact ((captureStep_drainRotary a).runSteps_swap rfl s t).symm

end Sys2Proof.Machine
end

section
/-! The environment's schedule and atomic drains (R60, R62, R63): when a scheduled entry completes, what
no step writes besides the registers it names, and what a run of ROT events leaves for a drain. -/

namespace Sys2Proof.Machine

/-! ### Enabling conditions (R60) -/

/-- An event-level step completes exactly in the states that enable it. -/
theorem exec_completes_iff (i : Instr) (s : State) : (∃ t, exec i s = .next t) ↔ enabled i s = true :=
  ⟨fun ⟨_, h⟩ => enabled_of_exec_next h, fun h => ⟨_, exec_next_of_enabled h⟩⟩

/-- The enabling conditions read `RUN` and `CAP_EN`, not the schedule. -/
theorem enabled_withInputs (i : Instr) (s : State) (ins : List Stimulus) :
    enabled i { s with inputs := ins } = enabled i s := by
  cases i <;> rfl

/-- A trace word completes exactly when it decodes to an enabled step. -/
theorem runTrace_completes_iff (tw : TraceWord) (s : State) :
    (∃ t, runTrace tw s = .next t) ↔ ∃ i, decode tw = .ok i ∧ enabled i s = true := by
  unfold runTrace
  cases decode tw with
  | ok i => simp [exec_completes_iff]
  | error e => simp

/-- Settles O8: `step` runs the head of the schedule, a cycle always completes, and a word completes as
its decoded step does. `Fault` has no constructor (log 17). -/
theorem stepCompletesExactlyWhenEnabled : Obligations.StepCompletesExactlyWhenEnabled := by
  unfold Obligations.StepCompletesExactlyWhenEnabled
  refine ⟨fun s x rest hin => ?_, fun _ r => nomatch r⟩
  have hstep : step s = runStimulus x { s with inputs := rest } := by simp [step, hin]
  rw [hstep]
  cases x with
  | cycle p => exact iff_of_true ⟨_, rfl⟩ trivial
  | trace tw =>
    simp only [runStimulus, runTrace_completes_iff, enabled_withInputs]

/-! ### The frame outside the architected registers (R63, logs 2 and 4) -/

/-- No event-level step takes or adds an entry of the schedule. -/
theorem exec_inputs {i : Instr} {s t : State} (h : exec i s = .next t) : t.inputs = s.inputs := by
  cases stepEffect_of_exec h with
  | rst => rfl
  | _ => simp

/-- The same in a cycle's list of steps. -/
@[simp] theorem applyStep_inputs (s : State) (i : Instr) : (applyStep s i).inputs = s.inputs := by
  cases h : exec i s with
  | next t => rw [applyStep_of_next h, exec_inputs h]
  | fault r => simp [applyStep, h]
  | refused r => simp [applyStep, h]

/-- No clock cycle takes or adds an entry of the schedule. -/
@[simp] theorem cycle_inputs (p : Ports) (s : State) : (cycle p s).inputs = s.inputs := by
  cases hrst : p.rst with
  | true => rw [cycle_of_rst hrst]; rfl
  | false =>
    rw [cycle_frame hrst s State.inputs (fun i u _ => applyStep_inputs u i) fun _ _ => rfl,
      advanceHidden_inputs]

/-- Settles O45: effect by effect for the hidden registers, and entry by entry for the configuration and
the schedule. -/
theorem hiddenRegistersFrame : Obligations.HiddenRegistersFrame := by
  unfold Obligations.HiddenRegistersFrame
  refine ⟨fun i s t h hrst => ?_, fun s t h => ?_⟩
  · cases stepEffect_of_exec h with
    | rst => exact absurd rfl hrst
    | _ => simp
  · rcases step_next_cases h with ⟨tw, rest, i, hin, _, hexec⟩ | ⟨p, rest, hin, rfl⟩
    · exact ⟨by rw [exec_cfg hexec], by rw [exec_inputs hexec, hin, List.tail_cons]⟩
    · exact ⟨cycle_cfg _ _, by rw [cycle_inputs, hin, List.tail_cons]⟩

/-! ### Rotary counts and their drains (R62, R187, R189) -/

/-- The ROT events with these samples, `q` before `p`. -/
def rotEvents (xs : List (Bool × Bool)) : List Instr := xs.map fun x => .rot x.1 x.2

/-- The net count of the samples, over the integers (R187). -/
def netCount (pol : Polarity) (xs : List (Bool × Bool)) : Int :=
  (xs.map fun x => if x.1 then 0 else (if x.2 then 1 else -1) * pol.sign).sum

theorem netCount_append (pol : Polarity) (xs ys : List (Bool × Bool)) :
    netCount pol (xs ++ ys) = netCount pol xs + netCount pol ys := by
  simp [netCount]

/-- ROT events under enabled capture add their net count to `ROT_ACC` modulo 2^32 and leave capture
enabled. -/
theorem runSteps_rotEvents (xs : List (Bool × Bool)) {s : State} (hcap : s.capEn = true) :
    ∃ t, runSteps (rotEvents xs) s = .next t ∧ t.capEn = true ∧ t.cfg = s.cfg ∧
      t.rotAcc = s.rotAcc + BitVec.ofInt 32 (netCount s.cfg.rotPol xs) := by
  induction xs generalizing s with
  | nil => exact ⟨s, rfl, hcap, rfl, by simp [netCount]⟩
  | cons x xs ih =>
    obtain ⟨q, p⟩ := x
    have hrot : exec (.rot q p) s = .next (drive silent (accumulateRotary q p s)) := if_pos hcap
    obtain ⟨t, hrun, htcap, hcfg, hacc⟩ := ih (s := drive silent (accumulateRotary q p s)) hcap
    refine ⟨t, ?_, htcap, hcfg, ?_⟩
    · rw [← hrun]; simp [rotEvents, runSteps, hrot]
    · calc t.rotAcc
          = s.rotAcc + rotaryDelta s.cfg.rotPol q p + BitVec.ofInt 32 (netCount s.cfg.rotPol xs) := hacc
        _ = s.rotAcc + BitVec.ofInt 32 (netCount s.cfg.rotPol ((q, p) :: xs)) := by
          rw [rotaryDelta_eq, BitVec.add_assoc, ← BitVec.ofInt_add]; rfl

/-- A drain after ROT events answers what `ROT_ACC` held plus their net count, and leaves 0. -/
theorem runSteps_rotEvents_drain (xs : List (Bool × Bool)) (arg : Word) {s : State}
    (hcap : s.capEn = true) :
    ∃ t, runSteps (rotEvents xs ++ [.drainRotary arg]) s = .next t ∧ t.capEn = true ∧
      t.cfg = s.cfg ∧ t.rotAcc = 0 ∧
      t.out.rspData = s.rotAcc + BitVec.ofInt 32 (netCount s.cfg.rotPol xs) := by
  obtain ⟨u, hrun, hucap, hcfg, hacc⟩ := runSteps_rotEvents xs hcap
  exact ⟨drive (response u.rotAcc) (clearRotary u), runSteps_append _ _ hrun, hucap, hcfg, rfl, hacc⟩

/-- Settles O42: the first drain answers the start value with the first counts and leaves 0, so the second
answers the second counts alone. -/
theorem everyRotaryCountDrainedOnce : Obligations.EveryRotaryCountDrainedOnce := by
  unfold Obligations.EveryRotaryCountDrainedOnce
  intro s xs ys a b hcap
  obtain ⟨t, hfirst, htcap, hcfg, htzero, htrsp⟩ := runSteps_rotEvents_drain xs a hcap
  obtain ⟨u, hsecond, _, _, huzero, hursp⟩ := runSteps_rotEvents_drain ys b htcap
  refine ⟨t, u, hfirst, hsecond, htzero, huzero, ?_⟩
  change _ = BitVec.ofInt 32 (s.rotAcc.toInt + netCount s.cfg.rotPol (xs ++ ys))
  rw [htrsp, hursp, htzero, hcfg, netCount_append, BitVec.ofInt_add, BitVec.ofInt_add,
    BitVec.ofInt_toInt, zero_add, BitVec.add_assoc]

end Sys2Proof.Machine
end

section
/-! Encoding and decoding are inverse to each other (R71, R72, R75, R79): the fields of an event's trace
word, `decode` by the class of its word, the command words, and the shapes of the opcode table. -/

namespace Sys2Proof

/-! ### The fields of a trace word -/

/-- A field of a trace word under a mask that covers the field is the match's. -/
theorem field_of_masked {tw mask pattern : TraceWord} (h : tw &&& mask = pattern) (a n : Nat)
    (hmask : mask.extractLsb' a n = BitVec.allOnes n) : tw.extractLsb' a n = pattern.extractLsb' a n := by
  rw [← h, BitVec.extractLsb'_and, hmask, BitVec.and_allOnes]

/-- A payload with its unused bits 0 is that of its two samples (R79). -/
theorem twoSamples_of_unused_zero {tw : TraceWord} (h : tw.extractLsb' 2 34 = 0) :
    twoSamples (tw.getLsbD 1) (tw.getLsbD 0) = tw.extractLsb' 0 36 := by
  apply BitVec.eq_of_getLsbD_eq; intro i hi
  have hbit : ∀ j < 34, tw.getLsbD (2 + j) = false := fun j hj => by
    simpa [hj] using congrArg (·.getLsbD j) h
  match i with
  | 0 => simp [twoSamples]
  | 1 => simp [twoSamples]
  | j + 2 =>
    have hzero : tw.getLsbD (j + 2) = false := Nat.add_comm 2 j ▸ hbit j (by omega)
    simp [twoSamples, hi, hzero]

/-- A payload with its unused bits 0 is that of its six button samples (R79). -/
theorem buttons_of_unused_zero {tw : TraceWord} (h : tw.extractLsb' 6 30 = 0) :
    (tw.extractLsb' 0 6).setWidth 36 = tw.extractLsb' 0 36 := by
  apply BitVec.eq_of_getLsbD_eq; intro i hi
  by_cases hlow : i < 6
  · simp [hlow, hi]
  · have hbit : tw.getLsbD (6 + (i - 6)) = false := by
      simpa [show i - 6 < 30 by omega] using congrArg (·.getLsbD (i - 6)) h
    rw [show 6 + (i - 6) = i by omega] at hbit
    simp [hlow, hi, hbit]

/-! ### `decode` by the class of the word -/

section
variable {tw : TraceWord}

/-- Class 0 is a host command, whatever its low bits (R75). -/
theorem decode_of_class_command (h : traceClass tw = 0x0) :
    decode tw = .ok (decodeCommand (tw.extractLsb' 0 36)) := by
  simp [decode, h]

theorem decode_of_class_tick (h : traceClass tw = 0x1) (hunused : tw.extractLsb' 2 34 = 0) :
    decode tw = .ok (.tick (tw.getLsbD 0) (tw.getLsbD 1)) := by
  simp [decode, h, hunused]

theorem decode_of_class_btn (h : traceClass tw = 0x2) (hunused : tw.extractLsb' 6 30 = 0) :
    decode tw = .ok (.btn (tw.extractLsb' 0 6)) := by
  simp [decode, h, hunused]

theorem decode_of_class_rot (h : traceClass tw = 0x3) (hunused : tw.extractLsb' 2 34 = 0) :
    decode tw = .ok (.rot (tw.getLsbD 1) (tw.getLsbD 0)) := by
  simp [decode, h, hunused]

theorem decode_of_class_rst (h : traceClass tw = 0xF) (hunused : tw.extractLsb' 0 36 = 0) :
    decode tw = .ok .rst := by
  simp [decode, h, hunused]

/-- Everything a word that decodes can be (R79): one case for each class that has steps. -/
theorem decode_ok_cases {i : Instr} (h : decode tw = .ok i) :
    (traceClass tw = 0x0 ∧ i = decodeCommand (tw.extractLsb' 0 36)) ∨
    (traceClass tw = 0x1 ∧ tw.extractLsb' 2 34 = 0 ∧ i = .tick (tw.getLsbD 0) (tw.getLsbD 1)) ∨
    (traceClass tw = 0x2 ∧ tw.extractLsb' 6 30 = 0 ∧ i = .btn (tw.extractLsb' 0 6)) ∨
    (traceClass tw = 0x3 ∧ tw.extractLsb' 2 34 = 0 ∧ i = .rot (tw.getLsbD 1) (tw.getLsbD 0)) ∨
    (traceClass tw = 0xF ∧ tw.extractLsb' 0 36 = 0 ∧ i = .rst) := by
  have class_eq : ∀ c : BitVec 4, (traceClass tw).toNat = c.toNat → traceClass tw = c :=
    fun _ => BitVec.eq_of_toNat_eq
  unfold decode at h
  split at h
  case h_1 hclass => exact .inl ⟨class_eq 0x0 hclass, (Except.ok.inj h).symm⟩
  case h_2 hclass =>
    split_ifs at h with hunused
    exact .inr (.inl ⟨class_eq 0x1 hclass, hunused, (Except.ok.inj h).symm⟩)
  case h_3 hclass =>
    split_ifs at h with hunused
    exact .inr (.inr (.inl ⟨class_eq 0x2 hclass, hunused, (Except.ok.inj h).symm⟩))
  case h_4 hclass =>
    split_ifs at h with hunused
    exact .inr (.inr (.inr (.inl ⟨class_eq 0x3 hclass, hunused, (Except.ok.inj h).symm⟩)))
  case h_5 hclass =>
    split_ifs at h with hunused
    exact .inr (.inr (.inr (.inr ⟨class_eq 0xF hclass, hunused, (Except.ok.inj h).symm⟩)))
  case h_6 => cases h

end

/-! ### Command words -/

/-- A word of class 0 is the trace word of an opcode and an argument (R71, R79). -/
theorem eq_encodeCommand_of_class {tw : TraceWord} (h : traceClass tw = 0x0) :
    ∃ op arg, tw = encodeCommand op arg := by
  refine ⟨(tw.extractLsb' 0 36).extractLsb' 32 4, (tw.extractLsb' 0 36).extractLsb' 0 32, ?_⟩
  rw [encodeCommand_fields, ← h, encodeEvent_fields]

/-- Encoding what a command's trace word decodes to gives the word back, for each of the sixteen opcodes
(R75, R76). -/
theorem encode_decodeCommand (op : BitVec 4) (arg : Word) :
    encode (decodeCommand ((encodeCommand op arg).extractLsb' 0 36)) = encodeCommand op arg := by
  have word : ∀ {k : BitVec 4}, op.toNat = k.toNat → encodeCommand k arg = encodeCommand op arg :=
    fun h => by rw [BitVec.eq_of_toNat_eq h]
  simp only [decodeCommand, opcode_encodeCommand, arg_encodeCommand,
    argField_encodeCommand op arg 2 30 (by omega), argField_encodeCommand op arg 0 2 (by omega)]
  split
  case h_6 hop => rw [encode, directionArg_fields]; exact word hop
  case h_16 =>
    have hlt : op.toNat < 16 := op.isLt
    have hop : op.toNat = 15 := by grind
    exact word hop
  all_goals exact word ‹_›

/-! ### The two round trips -/

/-- Settles O1: an event's word is one of at most 64, and a command's word keeps its opcode and its
argument. -/
theorem decodeOfEncode : Obligations.DecodeOfEncode := by
  unfold Obligations.DecodeOfEncode
  intro i _
  cases i with
  | tick e s => revert e s; decide
  | btn b => revert b; decide
  | rot q p => revert q p; decide
  | rst => decide
  | setDir g d =>
    rw [encode, decode_encodeCommand]
    simp only [decodeCommand, opcode_encodeCommand, argField_encodeCommand _ _ 2 30 (by omega),
      argField_encodeCommand _ _ 0 2 (by omega), directionArg_ignored, directionArg_code]
    rfl
  | _ =>
    rw [encode, decode_encodeCommand]
    simp only [decodeCommand, opcode_encodeCommand, arg_encodeCommand]
    rfl

/-- Settles O2: class by class, the word's fields are put together again. -/
theorem encodeOfDecode : Obligations.EncodeOfDecode := by
  unfold Obligations.EncodeOfDecode
  intro tw i h
  have event : ∀ {cls payload}, traceClass tw = cls → payload = tw.extractLsb' 0 36 →
      encodeEvent cls payload = tw := fun hcls hpayload => by
    rw [← hcls, hpayload, encodeEvent_fields]
  rcases decode_ok_cases h with ⟨hcls, rfl⟩ | ⟨hcls, hunused, rfl⟩ | ⟨hcls, hunused, rfl⟩ |
    ⟨hcls, hunused, rfl⟩ | ⟨hcls, hunused, rfl⟩
  · obtain ⟨op, arg, rfl⟩ := eq_encodeCommand_of_class hcls
    exact encode_decodeCommand op arg
  · exact event hcls (twoSamples_of_unused_zero hunused)
  · exact event hcls (buttons_of_unused_zero hunused)
  · exact event hcls (twoSamples_of_unused_zero hunused)
  · exact event hcls hunused.symm

/-! ### The shapes of the opcode table (R79, U13) -/

/-- The mask-and-match check as the five equations of the opcode table. -/
theorem TraceWord.wf_iff (tw : TraceWord) : TraceWord.wf tw = true ↔
    tw &&& 0xF000000000 = 0x0000000000 ∨ tw &&& 0xFFFFFFFFFC = 0x1000000000 ∨
    tw &&& 0xFFFFFFFFC0 = 0x2000000000 ∨ tw &&& 0xFFFFFFFFFC = 0x3000000000 ∨
    tw &&& 0xFFFFFFFFFF = 0xF000000000 := by
  simp only [TraceWord.wf, Bool.or_eq_true, beq_iff_eq, or_assoc]

/-- The word of every command passes the check, whatever its opcode and argument. -/
theorem TraceWord.wf_encodeCommand (op : BitVec 4) (arg : Word) :
    TraceWord.wf (encodeCommand op arg) = true := by
  refine (TraceWord.wf_iff _).2 (.inl ?_)
  calc encodeCommand op arg &&& 0xF000000000
      = encodeCommand op arg &&& 0xFF00000000 &&& 0xF000000000 := by rw [BitVec.and_assoc]; rfl
    _ = op.setWidth 40 <<< 32 &&& (0xF000000000 : TraceWord) :=
      congrArg (· &&& _) (Laws.TableRow.encodeCommand_masked op arg)
    _ = 0x0000000000 := by revert op; decide

/-- The word of every step passes the check. -/
theorem TraceWord.wf_encode (i : Instr) : TraceWord.wf (encode i) = true := by
  cases i with
  | tick e s => exact (TraceWord.wf_iff _).2 (.inr (.inl (Laws.TableRow.tick e s rfl)))
  | btn b => exact (TraceWord.wf_iff _).2 (.inr (.inr (.inl (Laws.TableRow.btn b rfl))))
  | rot q p => exact (TraceWord.wf_iff _).2 (.inr (.inr (.inr (.inl (Laws.TableRow.rot q p rfl)))))
  | rst => exact (TraceWord.wf_iff _).2 (.inr (.inr (.inr (.inr (Laws.TableRow.rst rfl)))))
  | _ => exact TraceWord.wf_encodeCommand _ _

/-- A word that passes the check decodes: the mask of its shape fixes its class and its unused bits. -/
theorem decode_ok_of_wf {tw : TraceWord} (h : TraceWord.wf tw = true) : ∃ i, decode tw = .ok i := by
  rcases (TraceWord.wf_iff tw).1 h with h | h | h | h | h
  · exact ⟨_, decode_of_class_command (field_of_masked h 36 4 rfl)⟩
  · exact ⟨_, decode_of_class_tick (field_of_masked h 36 4 rfl) (field_of_masked h 2 34 rfl)⟩
  · exact ⟨_, decode_of_class_btn (field_of_masked h 36 4 rfl) (field_of_masked h 6 30 rfl)⟩
  · exact ⟨_, decode_of_class_rot (field_of_masked h 36 4 rfl) (field_of_masked h 2 34 rfl)⟩
  · exact ⟨_, decode_of_class_rst (field_of_masked h 36 4 rfl) (field_of_masked h 0 36 rfl)⟩

/-- Settles O3: a word that decodes is the encoding of a step (O2), and every step's word passes the
check. -/
theorem decodesExactlyTraceWords : Obligations.DecodesExactlyTraceWords := by
  unfold Obligations.DecodesExactlyTraceWords
  refine fun tw => ⟨fun ⟨i, h⟩ => ?_, decode_ok_of_wf⟩
  rw [← encodeOfDecode tw i h]
  exact TraceWord.wf_encode i

/-- Settles O4: the nine words are evaluated. -/
theorem specWordsDecode : Obligations.SpecWordsDecode := by
  unfold Obligations.SpecWordsDecode
  refine ⟨?_, ?_, ?_, ?_, ?_, ?_, ?_, ?_, ?_⟩ <;> decide

end Sys2Proof
end

section
/-! The schedule (R59, R60, R79, log 2), the ignored argument bits (R77), and a cycle without a command
(R78). -/

namespace Sys2Proof.Machine

/-! ### Ignored argument bits (R77) -/

/-- SET_DIR does not read its ignored bits. -/
theorem exec_setDir_ignored (a b : BitVec 30) (d : BitVec 2) (s : State) :
    exec (.setDir a d) s = exec (.setDir b d) s := rfl

/-- The commands of form C0 do not read their argument, and are enabled in every state. -/
theorem exec_ignoredArg {mk : Word → Instr}
    (hmk : mk ∈ [Instr.nop, .initTimer, .initInputs, .stop, .getStopReason, .clearStopReason,
      .drainButtons, .drainRotary, .getStatus, .getTimerCfg]) (s : State) (a b : Word) :
    exec (mk a) s = exec (mk b) s ∧ enabled (mk a) s = true := by
  simp only [List.mem_cons, List.not_mem_nil, or_false] at hmk
  rcases hmk with rfl | rfl | rfl | rfl | rfl | rfl | rfl | rfl | rfl | rfl <;> exact ⟨rfl, rfl⟩

/-- Settles O5: no meaning reads its ignored bits, and every command is enabled. -/
theorem ignoredBitsExecuteTheSame : Obligations.IgnoredBitsExecuteTheSame := by
  unfold Obligations.IgnoredBitsExecuteTheSame
  refine fun s mk hmk => ⟨fun a b => ?_, fun a b d => ?_⟩
  · obtain ⟨hsame, henabled⟩ := exec_ignoredArg hmk s a b
    exact ⟨hsame, _, exec_next_of_enabled henabled⟩
  · exact ⟨exec_setDir_ignored a b d s, _, exec_next_of_enabled (i := .setDir a d) rfl⟩

/-! ### The head of the schedule (R59, R79) -/

/-- `step` runs the head of the schedule in the state without it. -/
theorem step_of_inputs {s : State} {x : Stimulus} {rest : List Stimulus} (h : s.inputs = x :: rest) :
    step s = runStimulus x { s with inputs := rest } := by
  simp only [step, h]

/-- An entry put before the schedule is what the next step runs. -/
theorem step_schedule (x : Stimulus) (s : State) : step (schedule x s) = runStimulus x s := rfl

theorem runTrace_of_decode_ok {tw : TraceWord} {i : Instr} (h : decode tw = .ok i) (s : State) :
    runTrace tw s = exec i s := by
  simp only [runTrace, h]

theorem runTrace_of_decode_error {tw : TraceWord} {e : DecodeError} (h : decode tw = .error e)
    (s : State) : runTrace tw s = .refused (.notAStep e) := by
  simp only [runTrace, h]

/-- A table row that reads as a step has that step's trace word. -/
theorem decode_tableTraceWord {nbits w : Nat} {i : Instr} (h : decodeTableWord nbits w = some i) :
    decode (tableTraceWord nbits w) = .ok i := by
  unfold decodeTableWord at h
  split_ifs at h
  rw [tableTraceWord]
  cases hd : decode (BitVec.ofNat 40 (w % 2 ^ nbits)) with
  | ok j => rw [hd] at h; exact congrArg _ (Option.some.inj h)
  | error e => rw [hd] at h; cases h

/-- Settles O6: the head of the schedule is a word that decodes, a clock cycle, or a word that spells no
step. -/
theorem stepRunsScheduledEntry : Obligations.StepRunsScheduledEntry := by
  unfold Obligations.StepRunsScheduledEntry
  refine ⟨fun s tw rest i hin hdec _ => ?_, fun s p rest hin => ?_, fun s tw rest e hin hdec => ?_⟩
  · exact (step_of_inputs hin).trans (runTrace_of_decode_ok hdec _)
  · exact step_of_inputs hin
  · exact (step_of_inputs hin).trans (runTrace_of_decode_error hdec _)

/-- Settles O7: `withFetchWord` puts the word before the schedule. -/
theorem fetchWordRunsNext : Obligations.FetchWordRunsNext := by
  unfold Obligations.FetchWordRunsNext
  intro s nbits w i h
  rw [State.withFetchWord, step_schedule]
  exact runTrace_of_decode_ok (decode_tableTraceWord h) s

/-! ### A cycle without a command (R78) -/

theorem rst_or_idle {p : Ports} (h : p.cmdValid = false) : p.rst = true ∨ idlePorts p = true := by
  cases hrst : p.rst <;> simp [idlePorts, hrst, h]

/-- Without a command the cycle is the same for every command word: with reset it is the reset state, and
without reset its own update and its events, none of which reads the command port. -/
theorem cycle_cmdWord_ignored {p : Ports} (h : p.cmdValid = false) (w : CmdWord) (s : State) :
    cycle { p with cmdWord := w } s = cycle p s := by
  rcases rst_or_idle h with hrst | hidle
  · rw [cycle_of_rst hrst, cycle_of_rst (p := { p with cmdWord := w }) hrst]
  · rw [cycle_of_idle hidle, cycle_of_idle (p := { p with cmdWord := w }) hidle,
      advanceHidden_command p p.cmdValid w s]

/-- Without a command both response ports are 0, in a cycle with reset too. -/
theorem cycle_response_of_no_command {p : Ports} (h : p.cmdValid = false) (s : State) :
    (cycle p s).out.rspData = 0 ∧ (cycle p s).out.rspErr = false := by
  rcases rst_or_idle h with hrst | hidle
  · rw [cycle_of_rst hrst]; exact ⟨rfl, rfl⟩
  · rw [cycle_of_idle hidle]; exact ⟨rfl, rfl⟩

/-- Settles O57: the response and the next state, each with and without reset. -/
theorem noCommandNoResponse : Obligations.NoCommandNoResponse := by
  unfold Obligations.NoCommandNoResponse
  intro p s h
  obtain ⟨hdata, herr⟩ := cycle_response_of_no_command h s
  exact ⟨hdata, herr, fun w => cycle_cmdWord_ignored h w s⟩

end Sys2Proof.Machine
end

section
/-! The rate decoder and the timer commands (R102 to R116): the decoder's integers against the exact
rationals and the widths of R114, what RECONFIGURE answers for each outcome of the decoder, a timing
command on top of its cycle, and the fields of GET_TIMER_CFG. -/

namespace Sys2Proof.Machine

/-! ### The decoder's integers, over the rationals (R101 to R103) -/

section
variable (c : Config) (rate : Nat)

/-- `A` as R103 writes it. -/
theorem delayScaled_eq : delayScaled c rate =
    (1000000000 - c.pwUs * (rate * c.spu : Int)) * c.fClkHz := by
  simp [delayScaled, rateSteps, delayNum]

/-- `B` as R103 writes it. -/
theorem countScaled_eq (d : Nat) : countScaled c rate d = d * 1000000 * (rate * c.spu : Int) := by
  simp [countScaled, rateSteps]

/-- The scale of the integer form: `A` and `B(i)` are the delay and the count period times `R * F_CLK_HZ`
(R103). -/
def integerScale : ℚ := rate * c.spu * c.fClkHz

variable {c rate}

theorem integerScale_pos (hrate : 0 < rate) : 0 < integerScale c rate := by
  have hspu := c.bounds.spu.1
  have hclk := c.bounds.fClkHz.1
  unfold integerScale
  positivity

theorem delayUs_eq (hrate : 0 < rate) :
    delayUs c rate = delayScaled c rate / integerScale c rate := by
  have hspu := c.bounds.spu.1
  have hclk := c.bounds.fClkHz.1
  rw [delayScaled_eq, delayUs, integerScale, delayNum]
  push_cast
  field_simp

theorem tickPeriodUs_eq (hrate : 0 < rate) (i : Nat) :
    c.tickPeriodUs i = countScaled c rate (c.divisor i) / integerScale c rate := by
  have hspu := c.bounds.spu.1
  have hclk := c.bounds.fClkHz.1
  rw [countScaled_eq, Params.tickPeriodUs, integerScale]
  push_cast
  field_simp

/-- The quotient of R103. -/
theorem delayUs_div_tickPeriodUs (hrate : 0 < rate) (i : Nat) : delayUs c rate / c.tickPeriodUs i =
    (delayScaled c rate : ℚ) / countScaled c rate (c.divisor i) := by
  rw [delayUs_eq hrate, tickPeriodUs_eq hrate, div_div_div_cancel_right₀ (integerScale_pos hrate).ne']

/-- The delay against a number of count periods, in integers (R103). -/
theorem delayUs_lt_iff (hrate : 0 < rate) (n i : Nat) : delayUs c rate < n * c.tickPeriodUs i ↔
    delayScaled c rate < n * countScaled c rate (c.divisor i) := by
  rw [delayUs_eq hrate, tickPeriodUs_eq hrate, ← mul_div_assoc,
    div_lt_div_iff_of_pos_right (integerScale_pos hrate)]
  exact_mod_cast Iff.rfl

theorem le_delayUs_iff (hrate : 0 < rate) (n i : Nat) : n * c.tickPeriodUs i ≤ delayUs c rate ↔
    n * countScaled c rate (c.divisor i) ≤ delayScaled c rate := by
  rw [← not_lt, ← not_lt, delayUs_lt_iff hrate]

/-- The too-fast comparison of R104 over the exact delay. -/
theorem delayUs_lt_tickPeriodUs_iff (hrate : 0 < rate) (i : Nat) : delayUs c rate < c.tickPeriodUs i ↔
    delayScaled c rate < countScaled c rate (c.divisor i) := by
  simpa using delayUs_lt_iff hrate 1 i

/-- Option reach of R105 over the exact delay. -/
theorem delayUs_le_iff_reaches (hrate : 0 < rate) (i : Nat) :
    delayUs c rate ≤ 255 * c.tickPeriodUs i ↔ reaches c rate (c.divisor i) = true := by
  rw [reaches_eq_true, delayUs_eq hrate, tickPeriodUs_eq hrate, ← mul_div_assoc,
    div_le_div_iff_of_pos_right (integerScale_pos hrate)]
  exact_mod_cast Iff.rfl

/-- The one floor of the decoder is that of the exact quotient (R103, R106). -/
theorem floor_delayUs_div_tickPeriodUs (hrate : 0 < rate) (i : Nat) :
    ⌊delayUs c rate / c.tickPeriodUs i⌋ = delayScaled c rate / countScaled c rate (c.divisor i) := by
  rw [delayUs_div_tickPeriodUs hrate]
  exact Rat.floor_intCast_div_natCast _ _

end

/-- Settles O13: both forms differ by the factor `R * F_CLK_HZ`. -/
theorem integerFormMatchesRational : Obligations.IntegerFormMatchesRational := by
  unfold Obligations.IntegerFormMatchesRational
  intro c rate i hrate _ R A B delay period
  have hA : A = delayScaled c rate := (delayScaled_eq c rate).symm
  have hB : B = countScaled c rate (c.divisor i) := (countScaled_eq c rate _).symm
  have hdelay : delayUs c rate = delay := by simp [delayUs, delayNum, delay]
  have hperiod : c.tickPeriodUs i = period := rfl
  rw [hA, hB, ← hdelay, ← hperiod]
  exact ⟨rfl, rfl, delayUs_div_tickPeriodUs hrate i, delayUs_lt_tickPeriodUs_iff hrate i,
    (delayUs_le_iff_reaches hrate i).trans (reaches_eq_true _ _ _),
    floor_delayUs_div_tickPeriodUs hrate i⟩

/-! ### What the decoder answers (R104 to R108) -/

theorem rateOf_pos {rate : Word} (h : rate ≠ 0) : 0 < rateOf rate :=
  Nat.pos_of_ne_zero fun hzero => h (BitVec.eq_of_toNat_eq hzero)

section
variable {c : Config} {rate : Nat}

theorem decodeRate_tooFast (hfast : delayScaled c rate < countScaled c rate (c.divisor 0)) :
    decodeRate c rate = .tooFast := by
  simp [decodeRate, hfast]

theorem decodeRate_tooSlow (hslow : countScaled c rate (c.divisor 0) ≤ delayScaled c rate)
    (hnone : ∀ i < c.ndiv, reaches c rate (c.divisor i) = false) : decodeRate c rate = .tooSlow := by
  rcases decodeRate_cases c rate with ⟨hfast, _⟩ | ⟨_, _, hd⟩ | ⟨k, _, hk, hreach, _⟩
  · exact absurd hfast hslow.not_gt
  · exact hd
  · simp [hnone k hk] at hreach

/-- The option that is programmed is the least that reaches (R105). -/
theorem decodeRate_program (hslow : countScaled c rate (c.divisor 0) ≤ delayScaled c rate) {i : Nat}
    (hi : i < c.ndiv) (hreach : reaches c rate (c.divisor i) = true)
    (hfirst : ∀ j < i, reaches c rate (c.divisor j) = false) : decodeRate c rate =
      .program i (delayScaled c rate / countScaled c rate (c.divisor i)).toNat := by
  rcases decodeRate_cases c rate with ⟨hfast, _⟩ | ⟨_, hnone, _⟩ | ⟨k, _, _, hkreach, hkfirst, hd⟩
  · exact absurd hfast hslow.not_gt
  · simp [hnone i hi] at hreach
  · rcases lt_trichotomy i k with hlt | rfl | hgt
    · simp [hkfirst i hlt] at hreach
    · exact hd
    · simp [hfirst k hgt] at hkreach

/-- What a programmed pair tells of the rate (R104 to R106). -/
theorem decodeRate_program_inv {i n : Nat} (h : decodeRate c rate = .program i n) :
    countScaled c rate (c.divisor 0) ≤ delayScaled c rate ∧ i < c.ndiv ∧
    reaches c rate (c.divisor i) = true ∧ (∀ j < i, reaches c rate (c.divisor j) = false) ∧
    n = (delayScaled c rate / countScaled c rate (c.divisor i)).toNat := by
  rcases decodeRate_cases c rate with ⟨_, hd⟩ | ⟨_, _, hd⟩ | ⟨k, hslow, hk, hreach, hfirst, hd⟩
  · simp [hd] at h
  · simp [hd] at h
  · rw [hd, RateResult.program.injEq] at h
    obtain ⟨rfl, rfl⟩ := h
    exact ⟨hslow, hk, hreach, hfirst, rfl⟩

/-- The count period of a programmed option is no longer than the delay. -/
theorem countScaled_le_of_program {i n : Nat} (h : decodeRate c rate = .program i n) :
    countScaled c rate (c.divisor i) ≤ delayScaled c rate := by
  obtain ⟨hslow, hi, _, hfirst, _⟩ := decodeRate_program_inv h
  exact countScaled_le_of_first_reaching hi hslow hfirst

/-- The programmed count is the delay in count periods, truncated (R106, R109). -/
theorem program_count_bounds (hrate : 0 < rate) {i n : Nat} (h : decodeRate c rate = .program i n) :
    n * countScaled c rate (c.divisor i) ≤ delayScaled c rate ∧
    delayScaled c rate < (n + 1) * countScaled c rate (c.divisor i) := by
  obtain ⟨_, hi, _, _, hn⟩ := decodeRate_program_inv h
  have hpos : 0 < countScaled c rate (c.divisor i) := countScaled_pos hrate hi
  have hquot : (n : Int) = delayScaled c rate / countScaled c rate (c.divisor i) := by
    rw [hn, Int.toNat_of_nonneg (Int.ediv_nonneg (hpos.le.trans (countScaled_le_of_program h)) hpos.le)]
  rw [hquot]
  exact ⟨Int.ediv_mul_le _ hpos.ne', Int.lt_ediv_add_one_mul_self _ hpos⟩

end

/-- Settles O14. -/
theorem tickCountBounds : Obligations.TickCountBounds := fun _ _ _ _ => decodeRate_program_bounds

/-! ### The widths of the decoder's integers (R114) -/

section
variable (c : Config)

theorem rateSteps_lt (rate : Word) : rateSteps c rate.toNat < 2 ^ 64 :=
  (Nat.mul_lt_mul'' rate.isLt c.bounds.spu.2).trans_le (by norm_num)

theorem pwUs_mul_rateSteps_lt (rate : Word) : c.pwUs * rateSteps c rate.toNat < 2 ^ 80 :=
  (Nat.mul_lt_mul'' (Nat.lt_succ_of_le c.bounds.pwUs.2) (rateSteps_lt c rate)).trans_le (by norm_num)

/-- The first factor of `A` lies between -2^80 and 10^9. -/
theorem abs_delayScaled_lt (rate : Word) : |delayScaled c rate.toNat| < 2 ^ 112 := by
  have hpw := pwUs_mul_rateSteps_lt c rate
  have hfactor : |(delayNum : Int) - (c.pwUs * rateSteps c rate.toNat : Nat)| < 2 ^ 80 := by
    rw [abs_lt, delayNum]; omega
  have hclk : |(c.fClkHz : Int)| < 2 ^ 32 := by
    rw [Nat.abs_cast]; exact_mod_cast c.bounds.fClkHz.2
  calc |delayScaled c rate.toNat|
      = |(delayNum : Int) - (c.pwUs * rateSteps c rate.toNat : Nat)| * |(c.fClkHz : Int)| := abs_mul _ _
    _ < 2 ^ 80 * 2 ^ 32 := mul_lt_mul'' hfactor hclk (abs_nonneg _) (abs_nonneg _)
    _ = 2 ^ 112 := by norm_num

theorem countScaled_lt (rate : Word) {i : Nat} (hi : i < c.ndiv) :
    countScaled c rate.toNat (c.divisor i) < 2 ^ 100 := by
  have hdiv : c.divisor i * 1000000 < 2 ^ 36 := by have := (c.bounds.divisor i hi).2; omega
  have hprod := (Nat.mul_lt_mul'' hdiv (rateSteps_lt c rate)).trans_le (by norm_num : _ ≤ 2 ^ 100)
  simp only [countScaled]
  exact_mod_cast hprod

end

/-- Settles O17: the bounds are products of the ranges of R10, and a programmed count period is no longer
than the delay. -/
theorem decoderArithmeticFits : Obligations.DecoderArithmeticFits := by
  unfold Obligations.DecoderArithmeticFits
  intro c rate i hi R A B
  have hR : R = rateSteps c rate.toNat := (Nat.cast_mul _ _).symm
  have hA : A = delayScaled c rate.toNat := (delayScaled_eq c _).symm
  have hB : B = countScaled c rate.toNat (c.divisor i) := (countScaled_eq c _ _).symm
  have hBlt := countScaled_lt c rate hi
  rw [hR, hA, hB]
  refine ⟨by exact_mod_cast rateSteps_lt c rate, by exact_mod_cast pwUs_mul_rateSteps_lt c rate,
    abs_delayScaled_lt c rate, hBlt, by omega, fun hrate => ?_, fun n _ h => countScaled_le_of_program h⟩
  exact countScaled_pos (rateOf_pos hrate) hi

/-! ### RECONFIGURE by the decoder's answer (R111) -/

theorem exec_reconfigure_zero (s : State) :
    exec (.reconfigure 0) s = .next (drive (response rspOk) (clearReason (stopTimer s))) := rfl

theorem exec_reconfigure_of_decode {s : State} {rate : Word} {r : RateResult} (hrate : rate ≠ 0)
    (h : decodeRate s.cfg rate.toNat = r) : exec (.reconfigure rate) s = .next (applyRate r s) := by
  simp only [exec, execReconfigure, reconfigureTo, if_neg (rateOf_pos hrate).ne']
  rw [rateOf, h]

/-- A successful RECONFIGURE with a non-zero rate programmed the decoder's pair. -/
theorem program_of_reconfigure_ok {s t : State} {rate : Word} (hrate : rate ≠ 0)
    (h : exec (.reconfigure rate) s = .next t) (hok : t.out.rspData = 1) :
    ∃ i n, decodeRate s.cfg rate.toNat = .program i n ∧
      t = drive (response rspOk) (startTimer i n s) := by
  cases hd : decodeRate s.cfg rate.toNat with
  | tooFast =>
    rw [exec_reconfigure_of_decode hrate hd, Host.Outcome.next.injEq] at h
    subst h; cases hok
  | tooSlow =>
    rw [exec_reconfigure_of_decode hrate hd, Host.Outcome.next.injEq] at h
    subst h; cases hok
  | program i n =>
    rw [exec_reconfigure_of_decode hrate hd, Host.Outcome.next.injEq] at h
    exact ⟨i, n, rfl, h.symm⟩

/-- The pair of a decoder's answer fits its two registers (R108). -/
theorem startTimer_pair_toNat {s : State} {rate i n : Nat} (hrate : 0 < rate)
    (h : decodeRate s.cfg rate = .program i n) :
    (startTimer i n s).divSel.toNat = i ∧ (startTimer i n s).tickCount.toNat = n := by
  obtain ⟨_, hmax, hi⟩ := decodeRate_program_bounds hrate h
  have hndiv := s.cfg.bounds.ndiv.2
  simp only [startTimer_divSel, startTimer_tickCount, BitVec.toNat_ofNat]
  omega

/-- Settles O12: the four outcomes are those of the decoder, whose comparisons are written out. -/
theorem reconfigureOutcomes : Obligations.ReconfigureOutcomes := by
  unfold Obligations.ReconfigureOutcomes
  intro s rate R A B
  have hA : A = delayScaled s.cfg rate.toNat := (delayScaled_eq s.cfg _).symm
  have hB : B = fun i => countScaled s.cfg rate.toNat (s.cfg.divisor i) :=
    funext fun i => (countScaled_eq s.cfg _ _).symm
  simp only [hA, hB, ← reaches_eq_true, ← reaches_eq_false]
  refine ⟨?_, fun hrate hfast => ?_, fun i hrate hslow hi hreach hfirst => ?_,
    fun hrate hslow hnone => ?_⟩
  · rintro rfl; exact exec_reconfigure_zero s
  · exact exec_reconfigure_of_decode hrate (decodeRate_tooFast hfast)
  · exact exec_reconfigure_of_decode hrate (decodeRate_program hslow hi hreach hfirst)
  · exact exec_reconfigure_of_decode hrate (decodeRate_tooSlow hslow hnone)

/-- Settles O15: the programmed count is the truncated quotient of delay and count period. -/
theorem quantisationBound : Obligations.QuantisationBound := by
  unfold Obligations.QuantisationBound
  intro s t rate hrate h hok implied
  obtain ⟨i, n, hd, rfl⟩ := program_of_reconfigure_ok hrate h hok
  have hpos : 0 < rate.toNat := rateOf_pos hrate
  obtain ⟨hsel, hcount⟩ := startTimer_pair_toNat hpos hd
  obtain ⟨hlow, hhigh⟩ := program_count_bounds hpos hd
  have hle := (le_delayUs_iff hpos n i).mpr hlow
  have hlt := (delayUs_lt_iff hpos (n + 1) i).mpr (by exact_mod_cast hhigh)
  simp only [implied, drive_divSel, drive_tickCount, hsel, hcount]
  push_cast at hlt
  constructor <;> linarith

section
variable {s : State} {rate : Word}

/-- P1 of R116: a delay of at least the shortest count period that the last option reaches is
programmed, with the finest option that reaches. -/
theorem reconfigure_in_range (hrate : rate ≠ 0)
    (hslow : s.cfg.tickPeriodUs 0 ≤ delayUs s.cfg rate.toNat)
    (hreach : delayUs s.cfg rate.toNat ≤ 255 * s.cfg.tickPeriodUs (s.cfg.ndiv - 1)) :
    ∃ t, exec (.reconfigure rate) s = .next t ∧ t.out.rspData = 1 ∧ t.run = true ∧
      t.divSel.toNat < s.cfg.ndiv ∧
      delayUs s.cfg rate.toNat ≤ 255 * s.cfg.tickPeriodUs t.divSel.toNat ∧
      ∀ j < s.cfg.ndiv, delayUs s.cfg rate.toNat ≤ 255 * s.cfg.tickPeriodUs j →
        t.divSel.toNat ≤ j := by
  have hpos : 0 < rate.toNat := rateOf_pos hrate
  have hlast : s.cfg.ndiv - 1 < s.cfg.ndiv := Nat.sub_one_lt_of_lt s.cfg.bounds.ndiv.1
  rw [← not_lt, delayUs_lt_tickPeriodUs_iff hpos] at hslow
  simp only [delayUs_le_iff_reaches hpos] at hreach ⊢
  rcases decodeRate_cases s.cfg rate.toNat with
    ⟨hfast, _⟩ | ⟨_, hnone, _⟩ | ⟨i, _, hi, hireach, hfirst, hd⟩
  · exact absurd hfast hslow
  · simp [hnone _ hlast] at hreach
  · refine ⟨_, exec_reconfigure_of_decode hrate hd, rfl, rfl, ?_⟩
    simp only [applyRate, drive_divSel, (startTimer_pair_toNat hpos hd).1]
    refine ⟨hi, hireach, fun j _ hj => not_lt.mp fun hlt => ?_⟩
    simp [hfirst j hlt] at hj

/-- P2 of R116: a delay below the shortest count period, or beyond the reach of the last option and so
of every option, stops the timer. -/
theorem reconfigure_out_of_range (hrate : rate ≠ 0)
    (hout : delayUs s.cfg rate.toNat < s.cfg.tickPeriodUs 0 ∨
      255 * s.cfg.tickPeriodUs (s.cfg.ndiv - 1) < delayUs s.cfg rate.toNat) :
    ∃ t, exec (.reconfigure rate) s = .next t ∧ t.out.rspData.getLsbD 0 = false ∧ t.run = false := by
  have hpos : 0 < rate.toNat := rateOf_pos hrate
  cases hd : decodeRate s.cfg rate.toNat with
  | tooFast =>
    have hfail : rspTooFast.getLsbD 0 = false := by decide
    exact ⟨_, exec_reconfigure_of_decode hrate hd, hfail, rfl⟩
  | tooSlow =>
    have hfail : rspTooSlow.getLsbD 0 = false := by decide
    exact ⟨_, exec_reconfigure_of_decode hrate hd, hfail, rfl⟩
  | program i n =>
    obtain ⟨hslow, hi, hreach, _, _⟩ := decodeRate_program_inv hd
    rcases hout with hfast | hbeyond
    · exact absurd ((delayUs_lt_tickPeriodUs_iff hpos 0).mp hfast) hslow.not_gt
    · have hmono : countScaled s.cfg rate.toNat (s.cfg.divisor i) ≤
          countScaled s.cfg rate.toNat (s.cfg.divisor (s.cfg.ndiv - 1)) :=
        countScaled_mono (Nat.le_sub_one_of_lt hi) (by omega)
      refine absurd hbeyond (not_lt.mpr ((delayUs_le_iff_reaches hpos _).mpr ?_))
      rw [reaches_eq_true] at hreach ⊢
      omega

end

/-- Settles O16. -/
theorem decoderProperties : Obligations.DecoderProperties :=
  ⟨fun _ _ => reconfigure_in_range, fun _ _ => reconfigure_out_of_range,
    fun s => ⟨_, exec_reconfigure_zero s, rfl, rfl⟩⟩

/-! ### A timing command on top of its cycle (R112, R237) -/

/-- A command ordered after the events of its cycle acts on what the cycle leaves without it. -/
theorem quiet_cycle_of_afterEvents {p : Ports} {i : Instr} (hrst : p.rst = false)
    (hvalid : p.cmdValid = true) (hcmd : decodeCommand p.cmdWord = i) (hafter : afterEvents i = true)
    (s : State) :
    quiet (cycle p s) = quiet (applyStep (cycle { p with cmdValid := false } s) i) := by
  have hwith : cycleSteps p s = cycleEvents s ++ [i] := by
    simp [cycleSteps, cycleCommand, hvalid, hcmd, hafter]
  have hwithout : idlePorts { p with cmdValid := false } = true := by simp [idlePorts, hrst]
  rw [cycle_of_not_rst hrst, hwith, List.foldl_append, cycle_of_idle hwithout]
  exact (drive_applyStep_drive i _ _ _).symm

/-- While the timer is stopped no cycle has a TICK (R140). -/
theorem tickDue_of_stopped {s : State} (h : s.run = false) : tickDue s = false := by
  simp [tickDue, h]

/-- While the timer is stopped the events of a cycle are BTN and ROT alone, and leave what neither
accumulator update changes. -/
theorem cycle_frame_of_stopped {α : Sort _} (f : State → α) (out : ∀ o u, f (drive o u) = f u)
    (press : ∀ b u, f (accumulateButtons b u) = f u) (turn : ∀ q r u, f (accumulateRotary q r u) = f u)
    {p : Ports} {s : State} (hrun : s.run = false) (hidle : idlePorts p = true) :
    f (cycle p s) = f (advanceHidden p s) := by
  have hbtn : ∀ b u, f (applyStep u (.btn b)) = f u := fun b u => by
    rw [applyStep_btn]; split <;> simp only [out, press]
  have hrot : ∀ q r u, f (applyStep u (.rot q r)) = f u := fun q r u => by
    rw [applyStep_rot]; split <;> simp only [out, turn]
  rw [cycle_of_idle hidle, out, cycleEvents, tickDue_of_stopped hrun]
  cases btnDue s <;> cases rotDue s <;> simp [hbtn, hrot]

/-- The periodic timer does nothing while it is stopped (R112). -/
theorem advanceTimer_of_stopped {s : State} (h : s.run = false) : advanceTimer s = s := by
  simp [advanceTimer, h]

/-- Settles O18: the event, the refusal of TICK, the stopped cycle, and STOP after the cycle's events. -/
theorem stopOnlyStopsTimer : Obligations.StopOnlyStopsTimer := by
  unfold Obligations.StopOnlyStopsTimer
  refine ⟨fun _ _ => rfl, fun s e f hrun t h => ?_, fun p s hrun hidle => ?_,
    fun p arg s hrst hvalid hcmd => ?_⟩
  · have henabled : s.run = true := enabled_of_exec_next h
    simp [hrun] at henabled
  · have frame {α : Type} (f : State → α) := cycle_frame_of_stopped f (hrun := hrun) (hidle := hidle)
    refine ⟨?_, ?_, ?_, ?_⟩
    · rw [frame State.psc (by simp) (by simp) (by simp), advanceHidden_psc, advanceTimer_of_stopped hrun]
    · rw [frame State.tcnt (by simp) (by simp) (by simp), advanceHidden_tcnt,
        advanceTimer_of_stopped hrun]
    · rw [frame State.run (by simp) (by simp) (by simp), advanceHidden_run, hrun]
    · rw [frame State.pwCtr (by simp) (by simp) (by simp), advanceHidden_pwCtr, advancePulse_pwCtr]
  · exact congrArg arch (quiet_cycle_of_afterEvents hrst hvalid hcmd rfl s)

/-! ### The fields of a response word (R74, R113) -/

theorem fieldAt_getLsbD {w : Nat} (k : Nat) (v : BitVec w) (j : Nat) :
    (fieldAt k v).getLsbD j = (decide (j < 32) && decide (k ≤ j) && v.getLsbD (j - k)) := by
  by_cases hj : j < 32
  · by_cases hk : k ≤ j
    · simp [fieldAt, hj, hk, show ¬ j < k by omega]
    · simp [fieldAt, hj, hk, show j < k by omega]
  · simp [fieldAt, hj]

/-- A field that fits the word is read back whole. -/
theorem extract_fieldAt_same {w k : Nat} (v : BitVec w) (hfits : k + w ≤ 32) :
    (fieldAt k v).extractLsb' k w = v := by
  apply BitVec.eq_of_getLsbD_eq; intro j hj
  rw [BitVec.getLsbD_extractLsb', fieldAt_getLsbD]
  simp [hj, show k + j < 32 by omega]

/-- A field puts nothing at places beside it. -/
theorem extract_fieldAt_beside {w k a n : Nat} (v : BitVec w) (hbeside : a + n ≤ k ∨ k + w ≤ a) :
    (fieldAt k v).extractLsb' a n = 0 := by
  apply BitVec.eq_of_getLsbD_eq; intro j hj
  rcases hbeside with hbelow | habove
  · simp [fieldAt_getLsbD, show ¬ k ≤ a + j by omega]
  · simp [fieldAt_getLsbD, BitVec.getLsbD_of_ge v (a + j - k) (by omega)]

/-- Settles O19: the three fields of the response lie beside each other. -/
theorem getTimerCfgLayout : Obligations.GetTimerCfgLayout := by
  unfold Obligations.GetTimerCfgLayout
  refine fun arg s => ⟨timerCfgWord s, rfl, ?_, ?_, ?_, ?_⟩
  · simp [timerCfgWord, BitVec.extractLsb'_or, extract_fieldAt_same, extract_fieldAt_beside]
  · simp [timerCfgWord, BitVec.extractLsb'_or, extract_fieldAt_same, extract_fieldAt_beside]
  · simp only [timerCfgWord, BitVec.getLsbD_or, fieldAt_getLsbD]; simp
  · simp [timerCfgWord, BitVec.extractLsb'_or, extract_fieldAt_beside]

/-! ### INIT_TIMER (R110) -/

/-- Settles O11: the reset state holds every value that INIT_TIMER writes. -/
theorem initTimerResetsTimingEngine : Obligations.InitTimerResetsTimingEngine :=
  ⟨fun _ _ => rfl, fun _ _ _ => rfl⟩

end Sys2Proof.Machine
end

section
/-! The event TICK: where it is a step (R141), the per-tick decision register by register (R142 to R146),
the stop-condition state machine (R147), and fairness. -/

namespace Sys2Proof.Machine

/-! ### Disabled events (R141, R184, R187) -/

/-- A TICK of a running timer takes the decision (R141, R142). -/
theorem exec_tick_of_running {s : State} (h : s.run = true) (e f : Bool) :
    exec (.tick e f) s = .next (tickDecision e f s) := if_pos h

/-- Settles O30: each of the three events is refused by the test of its own enabling bit. -/
theorem disabledEventsAreNoSteps : Obligations.DisabledEventsAreNoSteps := by
  unfold Obligations.DisabledEventsAreNoSteps
  refine ⟨fun s e f hrun => ?_, fun s b hcap => ?_, fun s q p hcap => ?_⟩
  · simp [exec, execTick, hrun]
  · simp [exec, execBtn, hcap]
  · simp [exec, execRot, hcap]

/-! ### The five steps of a TICK, register by register (R142) -/

/-- Step 2 of R142 stops: the count is at the threshold and the direction is still obstructed. -/
def endstopDue (e : Bool) (s : State) : Bool :=
  decide (debounceCount e s = s.cfg.threshold) && stillObstructed s

/-- The state with steps 1 to 3 of R142 done: the latch and the count written. -/
def debounced (e : Bool) (s : State) : State :=
  if debounceCount e s = s.cfg.threshold then writeDebounce (latchedDir s) 0 s
  else writeDebounce .none (debounceCount e s) s

/-- The decision as steps 1 to 3 followed by one of three outcomes (R142, R143). -/
theorem tickDecision_eq (e f : Bool) (s : State) : tickDecision e f s =
    if endstopDue e s = true then takeStop .endstop (debounced e s)
    else estopOrPulse f (debounced e s) := by
  unfold tickDecision endstopDue debounced
  by_cases hat : debounceCount e s = s.cfg.threshold
  · simp [hat]
  · simp [hat]

/-- The latch after a TICK is that of steps 1 to 3, whatever the outcome. -/
theorem tickDecision_stopDir (e f : Bool) (s : State) :
    (tickDecision e f s).stopDir = (debounced e s).stopDir := by
  rw [tickDecision_eq]
  split
  · rfl
  · cases f <;> rfl

/-- The count after a TICK is that of steps 1 to 3, whatever the outcome. -/
theorem tickDecision_debCnt (e f : Bool) (s : State) :
    (tickDecision e f s).debCnt = (debounced e s).debCnt := by
  rw [tickDecision_eq]
  split
  · rfl
  · cases f <;> rfl

theorem debounced_of_threshold {e : Bool} {s : State} (hat : debounceCount e s = s.cfg.threshold) :
    debounced e s = writeDebounce (latchedDir s) 0 s := if_pos hat

theorem debounced_of_ne_threshold {e : Bool} {s : State} (hne : debounceCount e s ≠ s.cfg.threshold) :
    debounced e s = writeDebounce .none (debounceCount e s) s := if_neg hne

/-- Steps 1 to 3 write the latch and the count alone. -/
theorem debounced_frame {α : Sort _} (g : State → α) (hwrite : ∀ d n u, g (writeDebounce d n u) = g u)
    (e : Bool) (s : State) : g (debounced e s) = g s := by
  unfold debounced
  split <;> exact hwrite _ _ _

/-- A TICK stops the timer unless it pulses. -/
theorem tickDecision_run (e f : Bool) (s : State) :
    (tickDecision e f s).run = (s.run && !endstopDue e s && !f) := by
  have hrun : (debounced e s).run = s.run := debounced_frame State.run (fun _ _ _ => rfl) e s
  rw [tickDecision_eq]
  cases endstopDue e s
  · cases f <;> simp [estopOrPulse, hrun]
  · simp

/-- ENDSTOP comes before EMERGENCY_STOP, and a pulse leaves the reason (R143). -/
theorem tickDecision_stopReason (e f : Bool) (s : State) : (tickDecision e f s).stopReason =
    if endstopDue e s = true then .endstop else if f = true then .emergencyStop else s.stopReason := by
  have hreason : (debounced e s).stopReason = s.stopReason :=
    debounced_frame State.stopReason (fun _ _ _ => rfl) e s
  rw [tickDecision_eq]
  cases endstopDue e s
  · cases f <;> simp [estopOrPulse, hreason]
  · simp

/-- A TICK answers no command, and pulses exactly if neither stop is taken (R142 step 5). -/
theorem tickDecision_out (e f : Bool) (s : State) :
    (tickDecision e f s).out = { pulse := !endstopDue e s && !f } := by
  rw [tickDecision_eq]
  cases endstopDue e s
  · cases f <;> rfl
  · rfl

/-- A pulse, and nothing else in a TICK, loads the hold counter (R148). -/
theorem tickDecision_pwCtr (e f : Bool) (s : State) : (tickDecision e f s).pwCtr =
    if (!endstopDue e s && !f) = true then BitVec.ofNat 32 s.cfg.pwCycles else s.pwCtr := by
  have hctr : (debounced e s).pwCtr = s.pwCtr := debounced_frame State.pwCtr (fun _ _ _ => rfl) e s
  have hcfg : (debounced e s).cfg = s.cfg := debounced_frame State.cfg (fun _ _ _ => rfl) e s
  rw [tickDecision_eq]
  cases endstopDue e s
  · cases f <;> simp [estopOrPulse, hctr, hcfg]
  · simp [hctr]

/-- The desired direction is the latched one: nothing was latched before, or it was this direction. -/
theorem desiredDir_eq_latchedDir_iff (s : State) :
    s.desiredDir = latchedDir s ↔ s.stopDir = .none ∨ s.desiredDir = s.stopDir := by
  unfold latchedDir
  split
  · next hnone => simp [hnone]
  · next hsome => simp [hsome]

theorem endstopDue_iff (e : Bool) (s : State) : endstopDue e s = true ↔
    debounceCount e s = s.cfg.threshold ∧ (s.cfg.backaway = false ∨ s.desiredDir = latchedDir s) := by
  simp [endstopDue, stillObstructed]

/-- Off the threshold step 2 does not stop. -/
theorem endstopDue_of_ne_threshold {e : Bool} {s : State}
    (hne : debounceCount e s ≠ s.cfg.threshold) : endstopDue e s = false := by
  simp [endstopDue, hne]

/-- Settles O29: at the threshold obstructed, at the threshold otherwise, and off it. -/
theorem tickDecisionOutcomes : Obligations.TickDecisionOutcomes := by
  unfold Obligations.TickDecisionOutcomes
  intro s e f hrun count latch pulse
  rw [exec_tick_of_running hrun, tickDecision_eq]
  refine ⟨fun hat hobstructed => ?_, fun hat hpermitted hother => ?_, fun hne => ?_⟩
  · rw [if_pos ((endstopDue_iff e s).mpr ⟨hat, hobstructed⟩), debounced_of_threshold hat]; rfl
  · have hnot : ¬ endstopDue e s = true := by
      rw [endstopDue_iff]
      rintro ⟨_, hforbidden | hsame⟩
      · simp [hpermitted] at hforbidden
      · exact hother hsame
    rw [if_neg hnot, debounced_of_threshold hat]
    cases f <;> rfl
  · rw [if_neg (by simp [endstopDue_of_ne_threshold hne]), debounced_of_ne_threshold hne]
    cases f <;> rfl

/-- Settles O31: the two stops of a TICK with `s = 1`, by whether step 2 stops. -/
theorem emergencyStopPriority : Obligations.EmergencyStopPriority := by
  unfold Obligations.EmergencyStopPriority
  intro s e hrun atThreshold
  refine ⟨_, exec_tick_of_running hrun e true, by simp [tickDecision_out], by simp [tickDecision_run],
    ?_, ?_, fun hat => ?_⟩
  · have hdue : endstopDue e s = true ↔ atThreshold ∧
        (s.cfg.backaway = false ∨ s.stopDir = .none ∨ s.desiredDir = s.stopDir) := by
      rw [endstopDue_iff, desiredDir_eq_latchedDir_iff]; rfl
    rw [tickDecision_stopReason, ← hdue]
    split
    · next h => simp [h]
    · next h => simp [h]
  · rw [tickDecision_stopReason]
    split
    · exact fun h => absurd rfl h
    · exact fun _ => rfl
  · rw [tickDecision_stopDir, debounced_of_threshold hat]; rfl

/-! ### Runs of asserted ticks (R144) -/

/-- A run followed by one more step. -/
theorem runSteps_snoc {is : List Instr} {i : Instr} {s t u : State} (hrun : runSteps is s = .next t)
    (hstep : exec i t = .next u) : runSteps (is ++ [i]) s = .next u := by
  rw [runSteps_append is [i] hrun]
  simp only [runSteps, hstep]

/-- What `n` asserted ticks below the threshold leave of a state with count 0. -/
structure AssertedTicks (s t : State) (n : Nat) : Prop where
  count : t.debCnt.toNat = n
  run : t.run = true
  reason : t.stopReason = s.stopReason
  direction : t.desiredDir = s.desiredDir
  cfg : t.cfg = s.cfg
  last : 0 < n → t.out.pulse = true ∧ t.stopDir = .none

/-- One more asserted tick below the threshold pulses and adds one to the count. -/
theorem AssertedTicks.succ {s t : State} {n : Nat} (h : AssertedTicks s t n)
    (hn : n + 1 < s.cfg.threshold) : AssertedTicks s (tickDecision true false t) (n + 1) := by
  have hcount : debounceCount true t = n + 1 := by simp [debounceCount, h.count]
  have hne : debounceCount true t ≠ t.cfg.threshold := by rw [hcount, h.cfg]; omega
  have hdue : endstopDue true t = false := endstopDue_of_ne_threshold hne
  have hwritten : debounced true t = writeDebounce .none (n + 1) t := by
    rw [debounced_of_ne_threshold hne, hcount]
  refine ⟨?_, by simp [tickDecision_run, hdue, h.run], by simp [tickDecision_stopReason, hdue, h.reason],
    by simp [h.direction], by simp [h.cfg], fun _ => ⟨by simp [tickDecision_out, hdue],
      by rw [tickDecision_stopDir, hwritten, writeDebounce_stopDir]⟩⟩
  rw [tickDecision_debCnt, hwritten, writeDebounce_debCnt, BitVec.toNat_ofNat]
  have := s.cfg.bounds.threshold.2
  omega

/-- `n < T` asserted ticks from a count of 0 (R144). -/
theorem runSteps_assertedTicks {s : State} (hrun : s.run = true) (hzero : s.debCnt = 0) (n : Nat)
    (hn : n < s.cfg.threshold) :
    ∃ t, runSteps (List.replicate n (.tick true false)) s = .next t ∧ AssertedTicks s t n := by
  induction n with
  | zero => exact ⟨s, rfl, by simp [hzero], hrun, rfl, rfl, rfl, nofun⟩
  | succ n ih =>
    obtain ⟨t, ht, hticks⟩ := ih (by omega)
    refine ⟨_, ?_, hticks.succ hn⟩
    rw [List.replicate_succ']
    exact runSteps_snoc ht (exec_tick_of_running hticks.run true false)

/-- The `T`-th asserted tick finds the direction obstructed: back-away is not permitted, or a tick
before it cleared the latch. -/
theorem AssertedTicks.endstopDue {s t : State} {n : Nat} (h : AssertedTicks s t n)
    (hn : n + 1 = s.cfg.threshold) (hobstructed : s.cfg.backaway = false ∨ 2 ≤ s.cfg.threshold) :
    endstopDue true t = true := by
  rw [endstopDue_iff, desiredDir_eq_latchedDir_iff, h.cfg]
  refine ⟨by simp [debounceCount, h.count, hn], ?_⟩
  rcases hobstructed with hforbidden | htwo
  · exact .inl hforbidden
  · exact .inr (.inl (h.last (by omega)).2)

/-- A de-asserted sample is below every threshold. -/
theorem debounceCount_false_ne (s : State) : debounceCount false s ≠ s.cfg.threshold := by
  have := s.cfg.bounds.threshold.1
  simp only [debounceCount, Bool.false_eq_true, if_false]
  omega

/-- Every threshold tick leaves the count at 0 (R142 step 2). -/
theorem tickDecision_debCnt_of_threshold {e : Bool} {s : State}
    (hat : debounceCount e s = s.cfg.threshold) (f : Bool) : (tickDecision e f s).debCnt = 0 := by
  rw [tickDecision_debCnt, debounced_of_threshold hat]; rfl

/-- Settles O32: `n` ticks below the threshold, one more at it, and a de-asserted sample. -/
theorem consecutiveAssertedSamples : Obligations.ConsecutiveAssertedSamples := by
  unfold Obligations.ConsecutiveAssertedSamples
  refine ⟨fun s n hrun hzero hn => ?_, fun s hrun hzero hobstructed => ?_, fun s f hrun => ?_⟩
  · obtain ⟨t, ht, hticks⟩ := runSteps_assertedTicks hrun hzero n hn
    exact ⟨t, ht, hticks.count, hticks.run, hticks.reason, hticks.direction, hticks.cfg,
      fun hpos => (hticks.last hpos).1⟩
  · obtain ⟨n, hn⟩ := Nat.exists_eq_add_of_le' s.cfg.bounds.threshold.1
    obtain ⟨t, ht, hticks⟩ := runSteps_assertedTicks hrun hzero n (by omega)
    have hdue := hticks.endstopDue hn.symm hobstructed
    refine ⟨tickDecision true false t, ?_, by simp [tickDecision_run, hdue],
      by simp [tickDecision_stopReason, hdue],
      tickDecision_debCnt_of_threshold ((endstopDue_iff true t).mp hdue).1 false,
      by simp [tickDecision_out, hdue]⟩
    rw [hn, List.replicate_succ']
    exact runSteps_snoc ht (exec_tick_of_running hticks.run true false)
  · have hwritten := debounced_of_ne_threshold (debounceCount_false_ne s)
    refine ⟨_, exec_tick_of_running hrun false f, ?_, ?_⟩
    · rw [tickDecision_debCnt, hwritten]; rfl
    · rw [tickDecision_stopDir, hwritten]; rfl

/-! ### The reach of back-away (R146) -/

/-- Settles O33: for `T >= 2` a count below the threshold goes with an empty latch, so a threshold tick
finds the direction obstructed; for `T = 1` the count is always 0 and the latch of another direction
stays. -/
theorem backAwayReach : Obligations.BackAwayReach := by
  unfold Obligations.BackAwayReach
  refine ⟨fun s f hinv hrun htwo hcount => ?_, fun s e f hrun htwo hzero => ?_,
    fun s hinv hrun hone hpermitted hlatched hother => ?_⟩
  · have hat : debounceCount true s = s.cfg.threshold := hcount
    have hnone : s.stopDir = .none := hinv.countingNoLatch (by omega)
    have hdue : endstopDue true s = true :=
      (endstopDue_iff true s).mpr ⟨hat, .inr ((desiredDir_eq_latchedDir_iff s).mpr (.inl hnone))⟩
    refine ⟨_, exec_tick_of_running hrun true f, by simp [tickDecision_run, hdue],
      by simp [tickDecision_stopReason, hdue], ?_, by simp [tickDecision_out, hdue]⟩
    rw [tickDecision_stopDir, debounced_of_threshold hat, writeDebounce_stopDir]
    simp [latchedDir, hnone]
  · have hne : debounceCount e s ≠ s.cfg.threshold := by cases e <;> simp [debounceCount, hzero] <;> omega
    refine ⟨_, exec_tick_of_running hrun e f, ?_⟩
    rw [tickDecision_stopDir, debounced_of_ne_threshold hne, writeDebounce_stopDir]
  · have hat : debounceCount true s = s.cfg.threshold := by
      have := hinv.debounceBelow
      simp only [debounceCount, if_true]
      omega
    have hdue : endstopDue true s = false := by
      rw [← Bool.not_eq_true, endstopDue_iff, desiredDir_eq_latchedDir_iff]
      simp [hpermitted, hlatched, hother]
    have hdue' : endstopDue false s = false := endstopDue_of_ne_threshold (debounceCount_false_ne s)
    refine ⟨⟨_, exec_tick_of_running hrun true false, by simp [tickDecision_run, hrun, hdue],
        by simp [tickDecision_out, hdue], ?_, tickDecision_debCnt_of_threshold hat false⟩,
      ⟨_, exec_tick_of_running hrun false false, by simp [tickDecision_run, hrun, hdue'],
        by simp [tickDecision_out, hdue'], ?_⟩⟩
    · rw [tickDecision_stopDir, debounced_of_threshold hat, writeDebounce_stopDir]
      simp [latchedDir, hlatched]
    · rw [tickDecision_stopDir, debounced_of_ne_threshold (debounceCount_false_ne s),
        writeDebounce_stopDir]

/-! ### The stop-condition state machine (R147) -/

theorem stopState_of_running {s : State} (h : s.run = true) : stopState s = .running := by
  simp [stopState, h]

theorem stopState_of_stopped {s : State} (h : s.run = false) : stopState s = .stopped s.stopReason := by
  simp [stopState, h]

/-- The state machine reads `RUN` and `STOP_REASON` alone. -/
theorem stopState_congr {s t : State} (hrun : t.run = s.run) (hreason : t.stopReason = s.stopReason) :
    stopState t = stopState s := by
  simp [stopState, hrun, hreason]

/-- Clearing `RUN` stops without a reason: with the invariants a running timer has none. -/
theorem Invariants.stopState_of_stop {s t : State} (h : Invariants s) (hrun : t.run = false)
    (hreason : t.stopReason = s.stopReason) :
    stopState t = match stopState s with | .running => .stopped .none | .stopped r => .stopped r := by
  rw [stopState_of_stopped hrun, hreason]
  cases hs : s.run with
  | true => rw [stopState_of_running hs, h.runningReason hs]
  | false => rw [stopState_of_stopped hs]

/-- Clearing the reason is seen by a stopped timer only. -/
theorem stopState_clearReason (o : Outputs) (s : State) :
    stopState (drive o (clearReason s)) =
      match stopState s with | .running => .running | .stopped _ => .stopped .none := by
  cases hs : s.run with
  | true => rw [stopState_of_running hs, stopState_of_running (s := drive o (clearReason s)) hs]
  | false => rw [stopState_of_stopped hs, stopState_of_stopped (s := drive o (clearReason s)) hs]; rfl

/-- RECONFIGURE's transitions: success with rate 0 stops without a reason, success with another rate
starts, and a failure stops as STOP does. -/
theorem Invariants.stopState_reconfigureTo {s : State} (h : Invariants s) (rate : Word) :
    stopState (Machine.reconfigureTo (rateOf rate) s) =
      if (Machine.reconfigureTo (rateOf rate) s).out.rspData = 1 then
        (if rate = 0 then .stopped .none else .running)
      else (match stopState s with | .running => .stopped .none | .stopped r => .stopped r) := by
  have hzero : rateOf rate = 0 ↔ rate = 0 := by simp [rateOf, BitVec.toNat_eq]
  have hok (u : State) : (Machine.drive (response rspOk) u).out.rspData = 1 := rfl
  have hfast (u : State) : ¬ (Machine.drive (response rspTooFast) u).out.rspData = 1 :=
    show ¬ rspTooFast = 1 by decide
  have hslow (u : State) : ¬ (Machine.drive (response rspTooSlow) u).out.rspData = 1 :=
    show ¬ rspTooSlow = 1 by decide
  rcases reconfigureTo_cases (rateOf rate) s with
    ⟨hrate, ht⟩ | ⟨_, _, ht⟩ | ⟨_, _, ht⟩ | ⟨index, count, hrate, _, ht⟩
  · rw [ht, if_pos (hok _), if_pos (hzero.mp hrate)]; rfl
  · rw [ht, if_neg (hfast _)]; exact h.stopState_of_stop rfl rfl
  · rw [ht, if_neg (hslow _)]; exact h.stopState_of_stop rfl rfl
  · rw [ht, if_pos (hok _), if_neg (mt hzero.mpr hrate)]; rfl

/-- The transitions of a TICK: it pulses and runs on, or takes one of the two stops. -/
theorem stopState_tickDecision (e f : Bool) {s : State} (hrun : s.run = true) :
    stopState (tickDecision e f s) =
      if (tickDecision e f s).out.pulse = true then .running
      else if (tickDecision e f s).stopReason = .endstop then .stopped .endstop
      else if f = true then .stopped .emergencyStop else .running := by
  unfold stopState
  rw [tickDecision_run, tickDecision_stopReason, tickDecision_out, hrun]
  cases endstopDue e s with
  | true => simp
  | false => cases f <;> simp

/-- Settles O34, writer by writer of `RUN` and `STOP_REASON`; every other step leaves the pair. -/
theorem stopStateMachine : Obligations.StopStateMachine := by
  unfold Obligations.StopStateMachine
  intro i s t hinv h
  cases stepEffect_of_exec h with
  | answer o readOnly =>
    cases i with
    | initTimer _ => cases readOnly .run
    | reconfigure _ => cases readOnly .run
    | stop _ => cases readOnly .run
    | clearStopReason _ => cases readOnly .stopReason
    | tick _ _ => cases readOnly .run
    | rst => cases readOnly .run
    | _ => exact stopState_congr rfl rfl
  | reconfigure rate => exact hinv.stopState_reconfigureTo rate
  | stop arg => exact hinv.stopState_of_stop rfl rfl
  | clearStopReason arg => exact stopState_clearReason _ s
  | tick e f running => exact stopState_tickDecision e f running
  | initTimer arg => rfl
  | rst => rfl
  | _ => exact stopState_congr rfl rfl

/-! ### Fairness (R141) -/

/-- Settles O38: from any point on fairness gives a stopped state or a TICK, and a TICK with `s = 1`
stops the timer in the next state. -/
theorem fairEmergencyStopHalts : Obligations.FairEmergencyStopHalts := by
  unfold Obligations.FairEmergencyStopHalts
  intro states steps hrun hfair hsampled n
  obtain ⟨m, hnm, hstopped | ⟨e, f, hstep⟩⟩ := hfair n
  · exact ⟨m, hnm, hstopped⟩
  · obtain rfl := hsampled m e f hstep
    have hexec : exec (.tick e true) (states m) = .next (states (m + 1)) := hstep ▸ hrun m
    have hrunning : (states m).run = true := enabled_of_exec_next hexec
    rw [exec_tick_of_running hrunning, Host.Outcome.next.injEq] at hexec
    exact ⟨m + 1, by omega, by rw [← hexec, tickDecision_run]; simp⟩

end Sys2Proof.Machine
end

section
/-! The clock cycle of the timing engine (R140, R148, R149, R154): the steps of a cycle one by one, the
pulse and its hold counter, the events of a cycle without a command, the timer's phase, and the commands
on the direction and the stop reason (R150 to R152). -/

namespace Sys2Proof.Machine

/-! ### The steps of a cycle (R236, R237) -/

theorem tickDue_iff (s : State) : tickDue s = true ↔ s.run = true ∧
    s.psc.toNat + 1 = s.cfg.divisor s.divSel.toNat ∧ s.tcnt.toNat + 1 = s.tickCount.toNat := by
  simp [tickDue, prescaleWraps, countMatches, and_assoc]

theorem btnDue_iff (s : State) : btnDue s = true ↔ s.capEn = true ∧ s.settleCtr = 1 := by
  simp [btnDue]

theorem rotDue_iff (s : State) : rotDue s = true ↔ s.capEn = true ∧ s.secS ≠ s.secP := by
  simp [rotDue]

theorem rst_of_idle {p : Ports} (hidle : idlePorts p = true) : p.rst = false := by
  simp only [idlePorts, Bool.and_eq_true, Bool.not_eq_true'] at hidle
  exact hidle.1

/-- A step of a cycle under its condition. -/
def stepIf (due : Bool) (i : Instr) (u : State) : State := if due = true then applyStep u i else u

@[simp] theorem stepIf_true (i : Instr) (u : State) : stepIf true i u = applyStep u i := rfl

@[simp] theorem stepIf_false (i : Instr) (u : State) : stepIf false i u = u := rfl

/-- What a step leaves alone, the step under a condition leaves alone. -/
theorem stepIf_frame {α : Sort _} (g : State → α) {i : Instr} {u : State}
    (hstep : g (applyStep u i) = g u) (due : Bool) : g (stepIf due i u) = g u := by
  cases due
  · rfl
  · exact hstep

/-- The events of a cycle, each under its condition, in the order of R236. -/
theorem foldl_cycleEvents (s u : State) : (cycleEvents s).foldl applyStep u =
    stepIf (rotDue s) (.rot s.secS s.priS) (stepIf (btnDue s) (.btn s.btnS)
      (stepIf (tickDue s) (.tick s.endS s.estS) u)) := by
  have hone (due : Bool) (i : Instr) (v : State) :
      (if due = true then [i] else []).foldl applyStep v = stepIf due i v := by cases due <;> rfl
  rw [cycleEvents, List.foldl_append, List.foldl_append, hone, hone, hone]

section
variable {α : Sort _} (g : State → α)

theorem applyStep_tick_frame (htick : ∀ e f u, g (tickDecision e f u) = g u) (e f : Bool) (u : State) :
    g (applyStep u (.tick e f)) = g u := by
  rw [applyStep_tick]; split
  · exact htick e f u
  · rfl

theorem applyStep_btn_frame (hout : ∀ o u, g (drive o u) = g u)
    (hpress : ∀ b u, g (accumulateButtons b u) = g u) (b : Buttons) (u : State) :
    g (applyStep u (.btn b)) = g u := by
  rw [applyStep_btn]; split
  · exact (hout _ _).trans (hpress b u)
  · rfl

theorem applyStep_rot_frame (hout : ∀ o u, g (drive o u) = g u)
    (hturn : ∀ q r u, g (accumulateRotary q r u) = g u) (q r : Bool) (u : State) :
    g (applyStep u (.rot q r)) = g u := by
  rw [applyStep_rot]; split
  · exact (hout _ _).trans (hturn q r u)
  · rfl

/-- Of the events of a cycle, TICK alone writes what neither accumulator update writes. -/
theorem foldl_cycleEvents_tick (hout : ∀ o u, g (drive o u) = g u)
    (hpress : ∀ b u, g (accumulateButtons b u) = g u)
    (hturn : ∀ q r u, g (accumulateRotary q r u) = g u) (s u : State) :
    g ((cycleEvents s).foldl applyStep u) = g (stepIf (tickDue s) (.tick s.endS s.estS) u) := by
  rw [foldl_cycleEvents, stepIf_frame g (applyStep_rot_frame g hout hturn _ _ _),
    stepIf_frame g (applyStep_btn_frame g hout hpress _ _)]

/-- A cycle with neither reset nor command is its own update and its TICK, in what the accumulator
updates leave alone. -/
theorem cycle_tick_of_idle (hout : ∀ o u, g (drive o u) = g u)
    (hpress : ∀ b u, g (accumulateButtons b u) = g u)
    (hturn : ∀ q r u, g (accumulateRotary q r u) = g u) {p : Ports} (hidle : idlePorts p = true)
    (s : State) : g (cycle p s) =
      g (if tickDue s = true then tickDecision s.endS s.estS (advanceHidden p s)
        else advanceHidden p s) := by
  rw [cycle_of_idle hidle, hout, foldl_cycleEvents_tick g hout hpress hturn]
  cases hdue : tickDue s with
  | false => rfl
  | true =>
    rw [stepIf_true, applyStep_tick, advanceHidden_run, if_pos ((tickDue_iff s).mp hdue).1, if_pos rfl]

/-- What no event writes, a cycle with neither reset nor command leaves to its own update. -/
theorem cycle_frame_of_idle (hout : ∀ o u, g (drive o u) = g u)
    (hpress : ∀ b u, g (accumulateButtons b u) = g u)
    (hturn : ∀ q r u, g (accumulateRotary q r u) = g u)
    (htick : ∀ e f u, g (tickDecision e f u) = g u) {p : Ports} (hidle : idlePorts p = true) (s : State) :
    g (cycle p s) = g (advanceHidden p s) := by
  rw [cycle_tick_of_idle g hout hpress hturn hidle]
  split
  · exact htick _ _ _
  · rfl

end

/-- The host's commands, reserved ones included: what a command word decodes to (R70, R75). -/
def isCommand : Instr → Bool
  | .tick _ _ | .btn _ | .rot _ _ | .rst => false
  | _ => true

theorem isCommand_decodeCommand (w : CmdWord) : isCommand (decodeCommand w) = true := by
  unfold decodeCommand
  dsimp only
  split <;> rfl

/-- A cycle has its events alone, its events and then its command, or its command and then its
events (R237). -/
theorem cycleSteps_cases (p : Ports) (s : State) :
    cycleSteps p s = cycleEvents s ∨
    (∃ i, isCommand i = true ∧ cycleSteps p s = cycleEvents s ++ [i]) ∨
    (∃ i, isCommand i = true ∧ afterEvents i = false ∧ cycleSteps p s = i :: cycleEvents s) := by
  unfold cycleSteps cycleCommand
  cases p.cmdValid
  · exact .inl rfl
  · have hcmd := isCommand_decodeCommand p.cmdWord
    cases hafter : afterEvents (decodeCommand p.cmdWord)
    · exact .inr (.inr ⟨_, hcmd, hafter, by simp [hafter]⟩)
    · exact .inr (.inl ⟨_, hcmd, by simp [hafter]⟩)

/-! ### The pulse of a cycle and its hold counter (R148) -/

/-- A cycle emits PULSE exactly when its TICK takes neither stop. -/
theorem cyclePulse_eq (s : State) :
    cyclePulse s = (tickDue s && (!endstopDue s.endS s && !s.estS)) := by
  cases hdue : tickDue s with
  | false => simp [cyclePulse, hdue]
  | true => simp [cyclePulse, hdue, applyStep_tick, ((tickDue_iff s).mp hdue).1, tickDecision_out]

theorem cycle_out_pulse {p : Ports} (hrst : p.rst = false) (s : State) :
    (cycle p s).out.pulse = cyclePulse s := by
  rw [cycle_of_not_rst hrst, drive_out]

/-- Step 2 of the TICK reads the count, the two directions and the configuration. -/
theorem endstopDue_congr {s t : State} (hcount : t.debCnt = s.debCnt) (hlatch : t.stopDir = s.stopDir)
    (hdir : t.desiredDir = s.desiredDir) (hcfg : t.cfg = s.cfg) (e : Bool) :
    endstopDue e t = endstopDue e s := by
  have hlatched : latchedDir t = latchedDir s := by rw [latchedDir, hlatch, hdir]; rfl
  rw [Bool.eq_iff_iff]
  simp only [endstopDue_iff, debounceCount, hcount, hlatched, hdir, hcfg]

/-- A command ordered before the TICK of its cycle writes nothing that the TICK reads (R237 (a)). -/
theorem applyStep_before_events {i : Instr} (hcmd : isCommand i = true) (hbefore : afterEvents i = false)
    (e : Bool) (s : State) :
    (applyStep s i).run = s.run ∧ endstopDue e (applyStep s i) = endstopDue e s := by
  cases i with
  | initTimer _ => cases hbefore
  | reconfigure _ => cases hbefore
  | stop _ => cases hbefore
  | setDir _ _ => cases hbefore
  | clearStopReason _ => cases hbefore
  | tick _ _ => cases hcmd
  | btn _ => cases hcmd
  | rot _ _ => cases hcmd
  | rst => cases hcmd
  | _ => exact ⟨rfl, rfl⟩

/-- No command writes the hold counter. -/
theorem applyStep_command_pwCtr {i : Instr} (hcmd : isCommand i = true) (s : State) :
    (applyStep s i).pwCtr = s.pwCtr := by
  cases i with
  | reconfigure rate => exact reconfigureTo_pwCtr s (rateOf rate)
  | setDir g d =>
    rcases execSetDir_cases g d s with ⟨_, hset⟩ | ⟨dir, _, _, hset⟩
    · rw [applyStep_of_next (i := .setDir g d) hset]; rfl
    · rw [applyStep_of_next (i := .setDir g d) hset]; rfl
  | tick _ _ => cases hcmd
  | btn _ => cases hcmd
  | rot _ _ => cases hcmd
  | rst => cases hcmd
  | _ => rfl

/-- The events of a cycle load the hold counter exactly if the cycle pulses, also on top of steps that
leave what the TICK reads. -/
theorem foldl_cycleEvents_pwCtr {s u : State} (hrun : u.run = s.run)
    (hdue : endstopDue s.endS u = endstopDue s.endS s) (hcfg : u.cfg = s.cfg) :
    ((cycleEvents s).foldl applyStep u).pwCtr =
      if cyclePulse s = true then BitVec.ofNat 32 s.cfg.pwCycles else u.pwCtr := by
  rw [foldl_cycleEvents_tick State.pwCtr (fun _ _ => rfl) (fun _ _ => rfl) (fun _ _ _ => rfl),
    cyclePulse_eq]
  cases htick : tickDue s with
  | false => rfl
  | true =>
    have hurun : u.run = true := hrun.trans ((tickDue_iff s).mp htick).1
    rw [stepIf_true, applyStep_tick, if_pos hurun, tickDecision_pwCtr, hdue, hcfg, Bool.true_and]

/-- The hold counter after a cycle without reset, whatever command or stop the cycle has (R148). -/
theorem cycle_pwCtr {p : Ports} (hrst : p.rst = false) (s : State) : (cycle p s).pwCtr =
    if cyclePulse s = true then BitVec.ofNat 32 s.cfg.pwCycles else (advancePulse s).pwCtr := by
  have hdue : endstopDue s.endS (advanceHidden p s) = endstopDue s.endS s :=
    endstopDue_congr (by simp) (by simp) (by simp) (by simp) s.endS
  have hevents : ((cycleEvents s).foldl applyStep (advanceHidden p s)).pwCtr =
      if cyclePulse s = true then BitVec.ofNat 32 s.cfg.pwCycles else (advancePulse s).pwCtr := by
    rw [foldl_cycleEvents_pwCtr (by simp) hdue (by simp), advanceHidden_pwCtr]
  rw [cycle_of_not_rst hrst, drive_pwCtr]
  rcases cycleSteps_cases p s with hsteps | ⟨i, hcmd, hsteps⟩ | ⟨i, hcmd, hbefore, hsteps⟩
  · rw [hsteps, hevents]
  · rw [hsteps, List.foldl_append]
    exact (applyStep_command_pwCtr hcmd _).trans hevents
  · obtain ⟨hrun, hkept⟩ := applyStep_before_events hcmd hbefore s.endS (advanceHidden p s)
    rw [hsteps, List.foldl_cons, foldl_cycleEvents_pwCtr (hrun.trans (by simp)) (hkept.trans hdue)
      (by simp), applyStep_command_pwCtr hcmd, advanceHidden_pwCtr]

/-- A cycle without a pulse counts the hold counter down to 0. -/
theorem cycle_pwCtr_of_no_pulse {p : Ports} {s : State} (hrst : p.rst = false)
    (hnot : (cycle p s).out.pulse = false) : (cycle p s).pwCtr.toNat = s.pwCtr.toNat - 1 := by
  rw [cycle_out_pulse hrst] at hnot
  rw [cycle_pwCtr hrst, hnot, if_neg Bool.false_ne_true, advancePulse_pwCtr]

/-- A run without reset and pulse counts the hold counter down by its length. -/
theorem runCycles_pwCtr_of_noPulse (ps : List Ports) {s : State} (hrst : ∀ p ∈ ps, p.rst = false)
    (hnone : noPulse ps s = true) :
    (runCycles ps s).pwCtr.toNat = s.pwCtr.toNat - ps.length := by
  induction ps generalizing s with
  | nil => rfl
  | cons p ps ih =>
    simp only [noPulse, Bool.and_eq_true, Bool.not_eq_true'] at hnone
    obtain ⟨hfirst, hrest⟩ := hnone
    have hcycle := cycle_pwCtr_of_no_pulse (hrst p List.mem_cons_self) hfirst
    have hrun := ih (fun q hq => hrst q (List.mem_cons_of_mem p hq)) hrest
    calc (runCycles (p :: ps) s).pwCtr.toNat
        = (cycle p s).pwCtr.toNat - ps.length := hrun
      _ = s.pwCtr.toNat - (p :: ps).length := by rw [hcycle, List.length_cons]; omega

/-- The pulse width in cycles is the width in microseconds, rounded up (R148). -/
theorem pwCycles_eq_ceil (c : Config) :
    c.pwCycles = ⌈(c.pwUs * c.fClkHz : ℚ) / 1000000⌉₊ := by
  refine eq_of_forall_ge_iff fun n => ?_
  have hle : c.pwCycles ≤ n ↔ c.pwUs * c.fClkHz ≤ n * 1000000 := by
    simp only [Params.pwCycles]
    split <;> omega
  rw [hle, Nat.ceil_le, div_le_iff₀ (by norm_num)]
  exact_mod_cast Iff.rfl

theorem stepPort_iff (s : State) : stepPort s = true ↔ s.pwCtr ≠ 0 := by simp [stepPort]

/-- `step` is high exactly while the hold counter has cycles left. -/
theorem stepPort_iff_pos (s : State) : stepPort s = true ↔ 0 < s.pwCtr.toNat := by
  rw [stepPort_iff, Nat.pos_iff_ne_zero, Ne, Ne, BitVec.toNat_eq]; rfl

/-- Settles O52: the load, the count down, the port, and the port along a run without another pulse. -/
theorem pulseHoldsItsWidth : Obligations.PulseHoldsItsWidth := by
  unfold Obligations.PulseHoldsItsWidth
  refine ⟨fun p s hpulse => ?_, fun p s => cycle_pwCtr_of_no_pulse, stepPort_iff,
    fun ps s hloaded hrst hnone => ?_⟩
  · have hrst : p.rst = false := by
      by_contra hreset
      rw [cycle_of_rst (by simpa using hreset)] at hpulse
      cases hpulse
    rw [cycle_out_pulse hrst] at hpulse
    rw [cycle_pwCtr hrst, if_pos hpulse, BitVec.toNat_ofNat, Nat.mod_eq_of_lt s.cfg.bounds.pwCycles.2,
      pwCycles_eq_ceil]
  · rw [stepPort_iff_pos, runCycles_pwCtr_of_noPulse ps hrst hnone, hloaded]
    omega

/-! ### The events of a cycle without a command (R140, R154, R183, R187) -/

/-- The sensors' synchronisers shift by one in every cycle without reset (R154). -/
theorem cycle_sensors {p : Ports} (hrst : p.rst = false) (s : State) :
    (cycle p s).endM = p.endstop ∧ (cycle p s).endS = s.endM ∧
    (cycle p s).estM = p.estop ∧ (cycle p s).estS = s.estM := by
  have hsteps := applyStep_frame (fun u : State => (u.endM, u.endS, u.estM, u.estS)) (by simp) (by simp)
    (by simp) (by simp) (by simp) (by simp) (by simp) (by simp) (by simp) (by simp) (by simp) (by simp)
  simpa using cycle_frame hrst s (fun u => (u.endM, u.endS, u.estM, u.estS)) hsteps (fun _ _ => rfl)

/-- After two cycles without reset the TICK's samples are the port values of the first (R154). -/
theorem runCycles_pair_samples {p₁ p₂ : Ports} (h₁ : p₁.rst = false) (h₂ : p₂.rst = false)
    (s : State) : (runCycles [p₁, p₂] s).endS = p₁.endstop ∧ (runCycles [p₁, p₂] s).estS = p₁.estop := by
  obtain ⟨hend, _, hest, _⟩ := cycle_sensors h₁ s
  obtain ⟨_, hendS, _, hestS⟩ := cycle_sensors h₂ (cycle p₁ s)
  exact ⟨hendS.trans hend, hestS.trans hest⟩

/-- The architected registers that a TICK writes (R38). -/
def tickRegs (s : State) : Bool × StopReason × Dir × BitVec 16 :=
  (s.run, s.stopReason, s.stopDir, s.debCnt)

theorem tickRegs_eq_iff (s t : State) : tickRegs s = tickRegs t ↔ s.run = t.run ∧
    s.stopReason = t.stopReason ∧ s.stopDir = t.stopDir ∧ s.debCnt = t.debCnt := by
  simp only [tickRegs, Prod.mk.injEq]

theorem tickRegs_of_arch {s t : State} (h : arch s = arch t) : tickRegs s = tickRegs t :=
  congrArg (fun a : Arch => (a.run, a.stopReason, a.stopDir, a.debCnt)) h

/-- The TICK of a cycle without a command decides as `exec` does, on the registers of the cycle and its
two samples. -/
theorem cycle_runs_tick {p : Ports} {s : State} (hidle : idlePorts p = true) (hdue : tickDue s = true) :
    ∃ u, exec (.tick s.endS s.estS) s = .next u ∧ tickRegs (cycle p s) = tickRegs u ∧
      (cycle p s).out.pulse = u.out.pulse ∧ (u.out.pulse = true → (cycle p s).pwCtr = u.pwCtr) := by
  have hrst := rst_of_idle hidle
  have hpulse : cyclePulse s = (tickDecision s.endS s.estS s).out.pulse := by
    rw [cyclePulse_eq, hdue, tickDecision_out, Bool.true_and]
  refine ⟨_, exec_tick_of_running ((tickDue_iff s).mp hdue).1 _ _, ?_,
    (cycle_out_pulse hrst s).trans hpulse, fun hemits => ?_⟩
  · rw [cycle_tick_of_idle tickRegs (fun _ _ => rfl) (fun _ _ => rfl) (fun _ _ _ => rfl) hidle,
      if_pos hdue]
    exact tickRegs_of_arch
      (arch_tickDecision_congr _ _ (arch_advanceHidden p s) (advanceHidden_cfg p s))
  · rw [cycle_pwCtr hrst, hpulse, if_pos hemits, tickDecision_pwCtr, if_pos]
    rwa [tickDecision_out] at hemits

/-- Without a TICK a cycle without a command leaves the registers that a TICK writes. -/
theorem cycle_without_tick {p : Ports} {s : State} (hidle : idlePorts p = true)
    (hnot : tickDue s = false) :
    tickRegs (cycle p s) = tickRegs s ∧ (cycle p s).out.pulse = false := by
  constructor
  · rw [cycle_tick_of_idle tickRegs (fun _ _ => rfl) (fun _ _ => rfl) (fun _ _ _ => rfl) hidle, hnot,
      if_neg Bool.false_ne_true]
    exact tickRegs_of_arch (arch_advanceHidden p s)
  · rw [cycle_out_pulse (rst_of_idle hidle), cyclePulse_eq, hnot, Bool.false_and]

/-- The BTN of a cycle without a command ORs `BTN_S` into the bitset; the other events leave it. -/
theorem cycle_btnAcc_of_idle {p : Ports} (hidle : idlePorts p = true) (s : State) :
    (cycle p s).btnAcc = s.btnAcc ||| (if btnDue s = true then s.btnS else 0) := by
  have htick {α : Type} (g : State → α) (h : ∀ e f u, g (tickDecision e f u) = g u) :=
    stepIf_frame g (applyStep_tick_frame g h s.endS s.estS (advanceHidden p s)) (tickDue s)
  rw [cycle_of_idle hidle, drive_btnAcc, foldl_cycleEvents, stepIf_frame State.btnAcc
    (applyStep_rot_frame State.btnAcc (by simp) (by simp) _ _ _)]
  cases hdue : btnDue s with
  | false =>
    rw [stepIf_false, htick State.btnAcc (by simp), advanceHidden_btnAcc]
    simp
  | true =>
    have hcap : s.capEn = true := ((btnDue_iff s).mp hdue).1
    rw [stepIf_true, applyStep_btn, htick State.capEn (by simp), advanceHidden_capEn, if_pos hcap,
      drive_btnAcc, accumulateButtons_btnAcc, htick State.btnAcc (by simp), advanceHidden_btnAcc,
      if_pos rfl]

/-- The ROT of a cycle without a command adds its count; the other events leave it. -/
theorem cycle_rotAcc_of_idle {p : Ports} (hidle : idlePorts p = true) (s : State) :
    (cycle p s).rotAcc = s.rotAcc +
      (if rotDue s = true then rotaryDelta s.cfg.rotPol s.secS s.priS else 0) := by
  have hbefore {α : Type} (g : State → α) (hout : ∀ o u, g (drive o u) = g u)
      (hpress : ∀ b u, g (accumulateButtons b u) = g u) (h : ∀ e f u, g (tickDecision e f u) = g u) :=
    (stepIf_frame g (applyStep_btn_frame g hout hpress s.btnS
      (stepIf (tickDue s) (.tick s.endS s.estS) (advanceHidden p s))) (btnDue s)).trans
    (stepIf_frame g (applyStep_tick_frame g h s.endS s.estS (advanceHidden p s)) (tickDue s))
  rw [cycle_of_idle hidle, drive_rotAcc, foldl_cycleEvents]
  cases hdue : rotDue s with
  | false =>
    rw [stepIf_false, hbefore State.rotAcc (by simp) (by simp) (by simp), advanceHidden_rotAcc]
    simp
  | true =>
    have hcap : s.capEn = true := ((rotDue_iff s).mp hdue).1
    rw [stepIf_true, applyStep_rot, hbefore State.capEn (by simp) (by simp) (by simp),
      advanceHidden_capEn, if_pos hcap, drive_rotAcc, accumulateRotary_rotAcc,
      hbefore State.rotAcc (by simp) (by simp) (by simp), hbefore State.cfg (by simp) (by simp) (by simp),
      advanceHidden_rotAcc, advanceHidden_cfg, if_pos rfl]

/-- Settles O49: the cycle with its TICK and without, its BTN, its ROT, the registers no event writes,
and the TICK's samples. -/
theorem cycleRunsSampledEvents : Obligations.CycleRunsSampledEvents := by
  unfold Obligations.CycleRunsSampledEvents
  constructor
  · intro p s hidle ticks t
    refine ⟨fun hticks => ?_, fun hnot => ?_, ?_, fun hedge => ?_, fun hnot => ?_, ?_⟩
    · obtain ⟨u, hexec, hregs, hpulse, hhold⟩ := cycle_runs_tick hidle ((tickDue_iff s).mpr hticks)
      obtain ⟨hrun, hreason, hdir, hcount⟩ := (tickRegs_eq_iff _ _).mp hregs
      exact ⟨u, hexec, hrun, hreason, hdir, hcount, hpulse, hhold⟩
    · have hnone : tickDue s = false := by rwa [← Bool.not_eq_true, tickDue_iff]
      obtain ⟨hregs, hpulse⟩ := cycle_without_tick hidle hnone
      obtain ⟨hrun, hreason, hdir, hcount⟩ := (tickRegs_eq_iff _ _).mp hregs
      exact ⟨hrun, hreason, hdir, hcount, hpulse⟩
    · simpa only [btnDue_iff] using cycle_btnAcc_of_idle hidle s
    · have hcap : enabled (.rot s.secS s.priS) s = true := hedge.1
      refine ⟨_, exec_next_of_enabled hcap, ?_⟩
      rw [applyStep_rot, if_pos hedge.1, cycle_rotAcc_of_idle hidle, if_pos ((rotDue_iff s).mpr hedge)]
      rfl
    · rw [cycle_rotAcc_of_idle hidle, if_neg (mt (rotDue_iff s).mp hnot), add_zero]
    · simpa using cycle_frame_of_idle (fun u => (u.divSel, u.tickCount, u.desiredDir, u.capEn)) (by simp)
        (by simp) (by simp) (by simp) hidle s
  · intro p₁ p₂ p s₀ h₁ h₂ hidle s hrun hwrap hmatch
    obtain ⟨hend, hest⟩ := runCycles_pair_samples h₁ h₂ s₀
    obtain ⟨u, hexec, hregs, hpulse, _⟩ :=
      cycle_runs_tick hidle ((tickDue_iff s).mpr ⟨hrun, hwrap, hmatch⟩)
    obtain ⟨hrun', hreason, hdir, hcount⟩ := (tickRegs_eq_iff _ _).mp hregs
    rw [hend, hest] at hexec
    exact ⟨u, hexec, hrun', hreason, hdir, hcount, hpulse⟩

/-! ### The timer's phase (R140) -/

/-- The compare match is the end of the compare period: within the invariants the two counters are the
digits of the phase. -/
theorem Invariants.tickDue_iff_phase {s : State} (h : Invariants s) (hrun : s.run = true) :
    tickDue s = true ↔ timerPhase s + 1 = comparePeriod s := by
  have hpsc := h.prescaleBelow
  have hcount : s.tcnt.toNat + 1 ≤ s.tickCount.toNat := by
    have := h.countBelow
    have := h.runningCount hrun
    omega
  have hdigits := Nat.mul_le_mul_right (s.cfg.divisor s.divSel.toNat) hcount
  rw [Nat.succ_mul] at hdigits
  unfold timerPhase comparePeriod
  rw [tickDue_iff]
  constructor
  · rintro ⟨_, hwrap, hmatch⟩
    rw [← hmatch, Nat.succ_mul]
    omega
  · intro hphase
    have hwrap : s.psc.toNat + 1 = s.cfg.divisor s.divSel.toNat := by omega
    refine ⟨hrun, hwrap, Nat.eq_of_mul_eq_mul_right (by omega : 0 < s.cfg.divisor s.divSel.toNat) ?_⟩
    rw [Nat.succ_mul]
    omega

/-- No event writes the timer's counters or its configuration. -/
theorem cycle_timer_of_idle {p : Ports} (hidle : idlePorts p = true) (s : State) :
    (cycle p s).psc = (advanceTimer s).psc ∧ (cycle p s).tcnt = (advanceTimer s).tcnt ∧
    (cycle p s).divSel = s.divSel ∧ (cycle p s).tickCount = s.tickCount := by
  have hframe := cycle_frame_of_idle (fun u => (u.psc, u.tcnt, u.divSel, u.tickCount)) (by simp) (by simp)
    (by simp) (by simp) hidle s
  simpa using hframe

/-- One cycle of a running timer adds one to the phase, and the compare match ends the period. -/
theorem Invariants.timerPhase_cycle {p : Ports} {s : State} (h : Invariants s) (hrun : s.run = true)
    (hidle : idlePorts p = true) :
    timerPhase (Machine.cycle p s) = if tickDue s = true then 0 else timerPhase s + 1 := by
  obtain ⟨hpsc, htcnt, hsel, _⟩ := cycle_timer_of_idle hidle s
  have hdiv := (s.cfg.bounds.divisor _ h.selectInTable).2
  unfold timerPhase
  rw [cycle_cfg, hsel, hpsc, htcnt, advanceTimer_psc, advanceTimer_tcnt, if_pos hrun]
  by_cases hwrap : prescaleWraps s = true
  · have hlast : s.psc.toNat + 1 = s.cfg.divisor s.divSel.toNat := by simpa [prescaleWraps] using hwrap
    have hdue : tickDue s = countMatches s := by simp [tickDue, hrun, hwrap]
    rw [if_pos hwrap, if_pos ⟨hrun, hwrap⟩, hdue]
    by_cases hmatch : countMatches s = true
    · rw [if_pos hmatch, if_pos hmatch]; simp
    · have hcount : (s.tcnt + 1).toNat = s.tcnt.toNat + 1 := by
        have hne : s.tcnt.toNat + 1 ≠ s.tickCount.toNat := by simpa [countMatches] using hmatch
        have := h.countBelow
        have := h.runningCount hrun
        have := s.tickCount.isLt
        bv_omega
      rw [if_neg hmatch, if_neg hmatch, hcount, Nat.succ_mul, ← hlast]
      rfl
  · have hnext : (s.psc + 1).toNat = s.psc.toNat + 1 := by
      have := h.prescaleBelow
      bv_omega
    have hnot : ¬ tickDue s = true := fun hdue => hwrap (decide_eq_true ((tickDue_iff s).mp hdue).2.1)
    rw [if_neg hwrap, if_neg fun hboth => hwrap hboth.2, if_neg hnot, hnext]
    rfl

/-- Settles O50. -/
theorem timerPhaseAdvances : Obligations.TimerPhaseAdvances := by
  unfold Obligations.TimerPhaseAdvances
  intro p s hinv hrun hidle
  obtain ⟨_, _, hsel, hcount⟩ := cycle_timer_of_idle hidle s
  exact ⟨hinv.tickDue_iff_phase hrun, hsel, hcount, hinv.timerPhase_cycle hrun hidle⟩

/-- What `n` cycles without reset, command or TICK leave of a running timer. -/
structure PeriodElapsed (s t : State) (n : Nat) : Prop where
  invariants : Invariants t
  run : t.run = true
  period : comparePeriod t = comparePeriod s
  phase : timerPhase t = timerPhase s + n
  hold : t.pwCtr.toNat = s.pwCtr.toNat - n

theorem PeriodElapsed.trans {s t u : State} {m n : Nat} (h : PeriodElapsed s t m)
    (h' : PeriodElapsed t u n) : PeriodElapsed s u (m + n) where
  invariants := h'.invariants
  run := h'.run
  period := h'.period.trans h.period
  phase := by rw [h'.phase, h.phase, Nat.add_assoc]
  hold := by rw [h'.hold, h.hold, Nat.sub_sub]

/-- A cycle before the end of the compare period. -/
theorem periodElapsed_cycle {p : Ports} {s : State} (hinv : Invariants s) (hrun : s.run = true)
    (hidle : idlePorts p = true) (hbefore : timerPhase s + 1 < comparePeriod s) :
    PeriodElapsed s (cycle p s) 1 := by
  have hnot : tickDue s = false := by
    rw [← Bool.not_eq_true, hinv.tickDue_iff_phase hrun]
    omega
  obtain ⟨hregs, hpulse⟩ := cycle_without_tick hidle hnot
  obtain ⟨hstays, _, _, _⟩ := (tickRegs_eq_iff _ _).mp hregs
  obtain ⟨_, _, hsel, hcount⟩ := cycle_timer_of_idle hidle s
  exact {
    invariants := hinv.cycle p
    run := hstays.trans hrun
    period := by simp only [comparePeriod, hsel, hcount, cycle_cfg]
    phase := by rw [hinv.timerPhase_cycle hrun hidle, hnot, if_neg Bool.false_ne_true]
    hold := cycle_pwCtr_of_no_pulse (rst_of_idle hidle) hpulse }

/-- Cycles that stay below the compare period have no TICK, and each adds one to the phase. -/
theorem periodElapsed_runCycles (ps : List Ports) {s : State} (hinv : Invariants s) (hrun : s.run = true)
    (hidle : ps.all idlePorts = true) (hbefore : timerPhase s + ps.length < comparePeriod s) :
    PeriodElapsed s (runCycles ps s) ps.length := by
  induction ps generalizing s with
  | nil => exact ⟨hinv, hrun, rfl, rfl, rfl⟩
  | cons p ps ih =>
    simp only [List.all_cons, Bool.and_eq_true, List.length_cons] at hidle hbefore ⊢
    have hfirst := periodElapsed_cycle hinv hrun hidle.1 (by omega)
    have hrest := ih hfirst.invariants hfirst.run hidle.2 (by rw [hfirst.phase, hfirst.period]; omega)
    rw [Nat.add_comm]
    exact hfirst.trans hrest

/-- With both counters zero the phase is 0. -/
theorem timerPhase_of_zero {s : State} (hpsc : s.psc = 0) (htcnt : s.tcnt = 0) : timerPhase s = 0 := by
  simp [timerPhase, hpsc, htcnt]

/-- Settles O51: the phase has counted every cycle so far, and a TICK is due at its end. -/
theorem comparePeriodIsExact : Obligations.ComparePeriodIsExact := by
  unfold Obligations.ComparePeriodIsExact
  intro ps s hinv hrun hpsc htcnt hidle hlen
  have hzero := timerPhase_of_zero hpsc htcnt
  have helapsed := periodElapsed_runCycles ps hinv hrun hidle (by omega)
  rw [helapsed.invariants.tickDue_iff_phase helapsed.run, helapsed.phase, helapsed.period, hzero,
    Nat.zero_add]

/-- Settles O53: at the end of the period the hold counter has counted down by one cycle less than the
period. -/
theorem pulsesStaySeparate : Obligations.PulsesStaySeparate := by
  unfold Obligations.PulsesStaySeparate
  intro ps s hinv hrun hpsc htcnt hidle hlen
  have hzero := timerPhase_of_zero hpsc htcnt
  have helapsed := periodElapsed_runCycles ps hinv hrun hidle (by omega)
  have hhold := helapsed.hold
  refine ⟨?_, fun hfits => ?_, fun hlong hloaded => ?_⟩
  · exact (comparePeriodIsExact ps s hinv hrun hpsc htcnt hidle (by omega)).mpr hlen
  · have hbound := hinv.pulseBelow
    unfold pulseFits at hfits
    rw [← Bool.not_eq_true, stepPort_iff_pos]
    omega
  · have hpos := s.cfg.bounds.pwCycles.1
    unfold pulseFits at hlong
    rw [stepPort_iff_pos]
    omega

/-! ### Commands on the direction and the stop reason (R150 to R152) -/

/-- The response of a cycle is what its command answers in the registers of the cycle (R237). -/
theorem cycle_response_of_command {p : Ports} {i : Instr} (hrst : p.rst = false)
    (hvalid : p.cmdValid = true) (hcmd : decodeCommand p.cmdWord = i) (s : State) :
    (cycle p s).out.rspData = (applyStep s i).out.rspData ∧
    (cycle p s).out.rspErr = (applyStep s i).out.rspErr := by
  rw [cycle_of_not_rst hrst]
  simp [cycleResponse, cycleCommand, hvalid, hcmd]

/-- The four codes of SET_DIR (R76, R150). -/
theorem exec_setDir (ignored : BitVec 30) (s : State) :
    exec (.setDir ignored 0) s = .next { s with desiredDir := .none, out := {} } ∧
    exec (.setDir ignored 1) s = .next { s with desiredDir := .cw, out := {} } ∧
    exec (.setDir ignored 2) s = .next { s with desiredDir := .ccw, out := {} } ∧
    exec (.setDir ignored 3) s = .next { s with out := { rspErr := true } } :=
  ⟨rfl, rfl, rfl, rfl⟩

/-- SET_DIR as a step of a cycle, on the architected registers and in its response. -/
theorem applyStep_setDir (ignored : BitVec 30) (code : BitVec 2) (s : State) :
    arch (applyStep s (.setDir ignored code)) = { arch s with
      desiredDir := if code = 0 then .none else if code = 1 then .cw else if code = 2 then .ccw
        else s.desiredDir } ∧
    (applyStep s (.setDir ignored code)).out.rspData = 0 ∧
    (applyStep s (.setDir ignored code)).out.rspErr = decide (code = 3) := by
  have hcodes : code = 0 ∨ code = 1 ∨ code = 2 ∨ code = 3 := by revert code; decide
  rcases hcodes with rfl | rfl | rfl | rfl <;> exact ⟨rfl, rfl, rfl⟩

/-- Settles O21: the four codes, and the write of a cycle's SET_DIR on top of the cycle without it. -/
theorem setDirWritesDirection : Obligations.SetDirWritesDirection := by
  unfold Obligations.SetDirWritesDirection
  refine ⟨exec_setDir, fun p ignored code s hrst hvalid hcmd => ?_⟩
  have hidle : idlePorts { p with cmdValid := false } = true := by simp [idlePorts, hrst]
  have hontop := congrArg arch (quiet_cycle_of_afterEvents hrst hvalid hcmd rfl s)
  have hdir : (cycle { p with cmdValid := false } s).desiredDir = s.desiredDir :=
    (cycle_frame_of_idle State.desiredDir (by simp) (by simp) (by simp) (by simp) hidle s).trans (by simp)
  obtain ⟨hdata, herr⟩ := cycle_response_of_command hrst hvalid hcmd s
  obtain ⟨hwritten, _, _⟩ := applyStep_setDir ignored code (cycle { p with cmdValid := false } s)
  obtain ⟨_, hzero, hraised⟩ := applyStep_setDir ignored code s
  rw [hdir] at hwritten
  exact ⟨hontop.trans hwritten, hdata.trans hzero, herr.trans hraised⟩

/-- The response of GET_STOP_REASON, code by code (R80). -/
theorem setWidth_stopReasonCode (r : StopReason) : (stopReasonCode r).setWidth 32 =
    (match r with | .none => 0 | .endstop => 1 | .emergencyStop => 2 : Word) := by
  cases r <;> decide

theorem exec_getStopReason (arg : Word) (s : State) : exec (.getStopReason arg) s =
    .next { s with out := { rspData := (stopReasonCode s.stopReason).setWidth 32 } } := rfl

/-- Settles O22. -/
theorem getStopReasonReads : Obligations.GetStopReasonReads := by
  unfold Obligations.GetStopReasonReads
  intro arg s
  rw [exec_getStopReason]
  exact congrArg (fun d : Word => Host.Outcome.next { s with out := { rspData := d } })
    (setWidth_stopReasonCode s.stopReason)

theorem exec_clearStopReason (arg : Word) (s : State) :
    exec (.clearStopReason arg) s = .next { s with stopReason := .none, out := {} } := rfl

/-- Settles O23: the write, the write of a reason that is NONE already, and the write on top of the
cycle's TICK. -/
theorem clearStopReasonClears : Obligations.ClearStopReasonClears := by
  unfold Obligations.ClearStopReasonClears
  refine ⟨exec_clearStopReason, fun arg s hinv hrun => ?_, fun p arg s hrst hvalid hcmd => ?_⟩
  · rw [exec_clearStopReason, ← hinv.runningReason hrun]
  · exact congrArg State.stopReason (quiet_cycle_of_afterEvents hrst hvalid hcmd rfl s)

end Sys2Proof.Machine
end

section
/-! Input capture (R180 to R193): the capture events and the drains at the event level, a command ordered
before the events of its cycle, the synchronisers, the settle delay, and the projection of a cycle-level
run onto its steps. -/

namespace Sys2Proof.Machine

/-! ### The capture events (R184, R187, R190) -/

theorem exec_btn {s : State} (hcap : s.capEn = true) (b : Buttons) :
    exec (.btn b) s = .next { s with btnAcc := s.btnAcc ||| b, out := {} } := if_pos hcap

theorem exec_rot {s : State} (hcap : s.capEn = true) (q p : Bool) : exec (.rot q p) s =
    .next { s with rotAcc := s.rotAcc + rotaryDelta s.cfg.rotPol q p, out := {} } := if_pos hcap

/-- Settles O39: the union bit by bit, and the refusal. -/
theorem btnAccumulatesSamples : Obligations.BtnAccumulatesSamples := by
  unfold Obligations.BtnAccumulatesSamples
  refine ⟨fun s b hcap => ⟨s.btnAcc ||| b, exec_btn hcap b, fun k _ => by simp⟩, fun s b hcap t h => ?_⟩
  have henabled : s.capEn = true := enabled_of_exec_next h
  simp [hcap] at henabled

/-- BTN events under enabled capture set exactly the sampled bits and leave capture enabled. -/
theorem runSteps_btnEvents (bs : List Buttons) {s : State} (hcap : s.capEn = true) :
    ∃ t, runSteps (bs.map .btn) s = .next t ∧ ∀ k, t.btnAcc.getLsbD k = true ↔
      s.btnAcc.getLsbD k = true ∨ ∃ b ∈ bs, b.getLsbD k = true := by
  induction bs generalizing s with
  | nil => exact ⟨s, rfl, by simp⟩
  | cons b bs ih =>
    obtain ⟨t, hrun, hbits⟩ := ih (s := { s with btnAcc := s.btnAcc ||| b, out := {} }) hcap
    refine ⟨t, ?_, fun k => ?_⟩
    · rw [← hrun]; simp [runSteps, exec_btn hcap]
    · simp [hbits, or_assoc]

theorem exec_drainButtons (arg : Word) (s : State) : exec (.drainButtons arg) s =
    .next { s with btnAcc := 0, out := { rspData := s.btnAcc.setWidth 32 } } := rfl

/-- Settles O41: the drain answers, zero-extended, what the events left. -/
theorem buttonEventsCoalesce : Obligations.ButtonEventsCoalesce := by
  unfold Obligations.ButtonEventsCoalesce
  intro s bs arg hcap
  obtain ⟨u, hrun, hbits⟩ := runSteps_btnEvents bs hcap
  refine ⟨{ u with btnAcc := 0, out := { rspData := u.btnAcc.setWidth 32 } },
    runSteps_append _ _ hrun, rfl, fun k hk => ?_⟩
  have hwidth : k < 32 := by omega
  simpa [hwidth] using hbits k

/-- With the secondary line low a ROT counts up exactly if the primary line has the level that the
polarity makes positive (R187). -/
theorem rotaryDelta_falling (pol : Polarity) (p : Bool) :
    rotaryDelta pol false p = if p = decide (pol = .plus) then 1 else -1 := by
  cases pol <;> cases p <;> rfl

theorem rotaryDelta_rising (pol : Polarity) (p : Bool) : rotaryDelta pol true p = 0 := rfl

/-- What the ROT of a cycle counts: the falling edges of the secondary line, in the direction of the
primary line (R186, R187). -/
theorem rotaryDelta_of_due (s : State) :
    (if rotDue s = true then rotaryDelta s.cfg.rotPol s.secS s.priS else 0) =
      if s.capEn = true ∧ s.secP = true ∧ s.secS = false then
        (if s.priS = decide (s.cfg.rotPol = .plus) then 1 else -1) else 0 := by
  cases hsec : s.secS with
  | true => simp [rotaryDelta_rising]
  | false =>
    rw [rotaryDelta_falling]
    simp [rotDue, hsec]

/-- Settles O40: the count of a ROT as an integer modulo 2^32, the refusal, and the ROT of a cycle. -/
theorem rotCountsGatedEdges : Obligations.RotCountsGatedEdges := by
  unfold Obligations.RotCountsGatedEdges
  refine ⟨fun s q p hcap => ?_, fun s q p hcap t h => ?_, fun p s hidle => ⟨rotDue_iff s, ?_⟩⟩
  · rw [exec_rot hcap, rotaryDelta_eq]
    cases q with
    | true => simp
    | false => simp [BitVec.ofInt_add]
  · have henabled : s.capEn = true := enabled_of_exec_next h
    simp [hcap] at henabled
  · rw [cycle_rotAcc_of_idle hidle, rotaryDelta_of_due]

/-! ### A command before the events of its cycle (R237 (a)) -/

/-- What no event writes, the events of a cycle leave. -/
theorem foldl_cycleEvents_frame {α : Sort _} (g : State → α) (hout : ∀ o u, g (drive o u) = g u)
    (hpress : ∀ b u, g (accumulateButtons b u) = g u)
    (hturn : ∀ q r u, g (accumulateRotary q r u) = g u)
    (htick : ∀ e f u, g (tickDecision e f u) = g u) (s u : State) :
    g ((cycleEvents s).foldl applyStep u) = g u := by
  rw [foldl_cycleEvents_tick g hout hpress hturn, stepIf_frame g (applyStep_tick_frame g htick _ _ _)]

/-- A due BTN ORs its samples into the bitset. -/
theorem stepIf_btn_btnAcc {due : Bool} {u : State} (hcap : due = true → u.capEn = true) (b : Buttons) :
    (stepIf due (.btn b) u).btnAcc = u.btnAcc ||| (if due = true then b else 0) := by
  cases due with
  | false => simp
  | true => simp [applyStep_btn, hcap]

/-- A due ROT adds its count. -/
theorem stepIf_rot_rotAcc {due : Bool} {u : State} (hcap : due = true → u.capEn = true) (q p : Bool) :
    (stepIf due (.rot q p) u).rotAcc =
      u.rotAcc + (if due = true then rotaryDelta u.cfg.rotPol q p else 0) := by
  cases due with
  | false => simp
  | true => simp [applyStep_rot, hcap]

/-- The BTN of a cycle, taken on top of what the cycle's command left. -/
theorem foldl_cycleEvents_btnAcc {s u : State} (hcap : s.capEn = true → u.capEn = true) :
    ((cycleEvents s).foldl applyStep u).btnAcc = u.btnAcc ||| (if btnDue s = true then s.btnS else 0) := by
  have htick {α : Type} (g : State → α) (h : ∀ e f v, g (tickDecision e f v) = g v) :=
    stepIf_frame g (applyStep_tick_frame g h s.endS s.estS u) (tickDue s)
  have hcapEn := htick State.capEn (by simp)
  have hacc := htick State.btnAcc (by simp)
  rw [foldl_cycleEvents, stepIf_frame State.btnAcc (applyStep_rot_frame _ (by simp) (by simp) _ _ _),
    stepIf_btn_btnAcc (fun hdue => hcapEn.trans (hcap ((btnDue_iff s).mp hdue).1)), hacc]

/-- What a ROT reads (R187). -/
def rotRegs (s : State) : Bool × Config × Word := (s.capEn, s.cfg, s.rotAcc)

theorem rotRegs_eq_iff (s t : State) :
    rotRegs s = rotRegs t ↔ s.capEn = t.capEn ∧ s.cfg = t.cfg ∧ s.rotAcc = t.rotAcc := by
  simp only [rotRegs, Prod.mk.injEq]

/-- The ROT of a cycle, taken on top of what the cycle's command left. -/
theorem foldl_cycleEvents_rotAcc {s u : State} (hcap : s.capEn = true → u.capEn = true) :
    ((cycleEvents s).foldl applyStep u).rotAcc =
      u.rotAcc + (if rotDue s = true then rotaryDelta u.cfg.rotPol s.secS s.priS else 0) := by
  have htick := stepIf_frame rotRegs
    (applyStep_tick_frame rotRegs (by simp [rotRegs]) s.endS s.estS u) (tickDue s)
  have hbtn := stepIf_frame rotRegs (applyStep_btn_frame rotRegs (fun _ _ => rfl) (fun _ _ => rfl) s.btnS
    (stepIf (tickDue s) (.tick s.endS s.estS) u)) (btnDue s)
  obtain ⟨hcapEn, hcfg, hacc⟩ := (rotRegs_eq_iff _ _).mp (hbtn.trans htick)
  rw [foldl_cycleEvents,
    stepIf_rot_rotAcc (fun hdue => hcapEn.trans (hcap ((rotDue_iff s).mp hdue).1)), hcfg, hacc]

/-- A command ordered before the events of its cycle acts on the registers of the cycle, and the events
on what it leaves. -/
theorem cycle_of_before_events {α : Sort _} (g : State → α) (hout : ∀ o u, g (drive o u) = g u)
    {p : Ports} {i : Instr} (hrst : p.rst = false) (hvalid : p.cmdValid = true)
    (hcmd : decodeCommand p.cmdWord = i) (hbefore : afterEvents i = false) (s : State) :
    g (cycle p s) = g ((cycleEvents s).foldl applyStep (applyStep (advanceHidden p s) i)) := by
  rw [cycle_of_not_rst hrst, hout]
  simp [cycleSteps, cycleCommand, hvalid, hcmd, hbefore]

/-- Settles O25: the drain, the drain after it, and the drain before the BTN of its cycle. -/
theorem drainButtonsReadsAndClears : Obligations.DrainButtonsReadsAndClears := by
  unfold Obligations.DrainButtonsReadsAndClears
  refine ⟨exec_drainButtons, fun a b s => ⟨_, rfl, rfl⟩, fun p arg s hrst hvalid hcmd => ⟨?_, ?_⟩⟩
  · exact (cycle_response_of_command hrst hvalid hcmd s).1
  · have hcap : s.capEn = true → (applyStep (advanceHidden p s) (.drainButtons arg)).capEn = true :=
      fun hon => applyStep_capEn (by simp) (by simp [hon])
    calc (cycle p s).btnAcc
        = ((cycleEvents s).foldl applyStep (applyStep (advanceHidden p s) (.drainButtons arg))).btnAcc :=
          cycle_of_before_events State.btnAcc (by simp) hrst hvalid hcmd rfl s
      _ = 0 ||| (if btnDue s = true then s.btnS else 0) := foldl_cycleEvents_btnAcc hcap
      _ = _ := by simp only [btnDue_iff, BitVec.ofNat_eq_ofNat, BitVec.zero_or]

theorem exec_drainRotary (arg : Word) (s : State) : exec (.drainRotary arg) s =
    .next { s with rotAcc := 0, out := { rspData := s.rotAcc } } := rfl

/-- The net count of gated counts alone: those with the primary line high against those with it low. -/
theorem netCount_gated (pol : Polarity) (ps : List Bool) : netCount pol (ps.map (Prod.mk false)) =
    pol.sign * (ps.count true - ps.count false : Int) := by
  induction ps with
  | nil => simp [netCount]
  | cons p ps ih =>
    have hsplit := netCount_append pol [(false, p)] (ps.map (Prod.mk false))
    rw [ih] at hsplit
    rw [List.map_cons]
    refine hsplit.trans ?_
    cases p <;> simp [netCount] <;> ring

/-- Settles O26: the drain, the drain before the ROT of its cycle, and the net sum after counts from 0. -/
theorem drainRotaryReadsAndClears : Obligations.DrainRotaryReadsAndClears := by
  unfold Obligations.DrainRotaryReadsAndClears
  refine ⟨exec_drainRotary, fun p arg s hrst hvalid hcmd => ⟨?_, ?_⟩, fun s ps arg hcap hzero => ?_⟩
  · exact (cycle_response_of_command hrst hvalid hcmd s).1
  · have hcap : s.capEn = true → (applyStep (advanceHidden p s) (.drainRotary arg)).capEn = true :=
      fun hon => applyStep_capEn (by simp) (by simp [hon])
    calc (cycle p s).rotAcc
        = ((cycleEvents s).foldl applyStep (applyStep (advanceHidden p s) (.drainRotary arg))).rotAcc :=
          cycle_of_before_events State.rotAcc (by simp) hrst hvalid hcmd rfl s
      _ = 0 + (if rotDue s = true then rotaryDelta s.cfg.rotPol s.secS s.priS else 0) := by
          rw [foldl_cycleEvents_rotAcc hcap, applyStep_cfg, advanceHidden_cfg]; rfl
      _ = _ := by simp only [zero_add, rotaryDelta_of_due, and_comm (a := s.secP = true)]
  · obtain ⟨t, hrun, _, _, hcleared, hresponse⟩ :=
      runSteps_rotEvents_drain (ps.map (Prod.mk false)) arg hcap
    refine ⟨t, by rwa [rotEvents, List.map_map] at hrun, hcleared, ?_⟩
    rw [hresponse, hzero, zero_add, netCount_gated]

/-! ### INIT_INPUTS (R180) -/

theorem exec_initInputs (arg : Word) (s : State) :
    exec (.initInputs arg) s = .next { s with capEn := true, out := {} } := rfl

/-- With capture disabled a cycle has neither a button edge nor a BTN nor a ROT (R182, R183, R186). -/
theorem capture_of_disabled {s : State} (hoff : s.capEn = false) :
    btnEdge s = false ∧ btnDue s = false ∧ rotDue s = false := by
  simp [btnEdge, btnDue, rotDue, hoff]

/-- Settles O24: the write, the cycle whose events are those of disabled capture, and the only step that
disables it. -/
theorem initInputsEnablesCapture : Obligations.InitInputsEnablesCapture := by
  unfold Obligations.InitInputsEnablesCapture
  refine ⟨exec_initInputs, fun p arg s hrst hvalid hcmd hoff => ?_, fun i s t h hi hon => ?_⟩
  · obtain ⟨hedge, hbtn, hrot⟩ := capture_of_disabled hoff
    have hcap : s.capEn = true → (applyStep (advanceHidden p s) (.initInputs arg)).capEn = true :=
      fun _ => rfl
    refine ⟨?_, ?_, ?_, fun hidle => ?_⟩
    · rw [cycle_of_before_events State.capEn (by simp) hrst hvalid hcmd rfl,
        foldl_cycleEvents_frame State.capEn (by simp) (by simp) (by simp) (by simp)]
      rfl
    · rw [cycle_of_before_events State.btnAcc (by simp) hrst hvalid hcmd rfl, foldl_cycleEvents_btnAcc hcap, hbtn]
      exact (BitVec.or_zero).trans (advanceHidden_btnAcc p s)
    · rw [cycle_of_before_events State.rotAcc (by simp) hrst hvalid hcmd rfl, foldl_cycleEvents_rotAcc hcap, hrot]
      exact (BitVec.add_zero _).trans (advanceHidden_rotAcc p s)
    · rw [cycle_settleCtr hrst, advanceSettle_settleCtr, hedge]
      simp [hidle]
  · obtain rfl := applyStep_of_next h
    exact applyStep_capEn hi hon

/-! ### The synchronisers (R181, R154) -/

/-- The capture lines' synchronisers and edge history shift by one in every cycle without reset, whatever
`CAP_EN` is (R181). -/
theorem cycle_captureLines {p : Ports} (hrst : p.rst = false) (s : State) :
    (cycle p s).btnM = p.btn ∧ (cycle p s).btnS = s.btnM ∧ (cycle p s).btnP = s.btnS ∧
    (cycle p s).secM = p.rotSec ∧ (cycle p s).secS = s.secM ∧ (cycle p s).secP = s.secS ∧
    (cycle p s).priM = p.rotPri ∧ (cycle p s).priS = s.priM := by
  have hsteps := applyStep_frame
    (fun u : State => (u.btnM, u.btnS, u.btnP, u.secM, u.secS, u.secP, u.priM, u.priS)) (by simp) (by simp)
    (by simp) (by simp) (by simp) (by simp) (by simp) (by simp) (by simp) (by simp) (by simp) (by simp)
  simpa using cycle_frame hrst s
    (fun u => (u.btnM, u.btnS, u.btnP, u.secM, u.secS, u.secP, u.priM, u.priS)) hsteps (fun _ _ => rfl)

/-- Settles O55: the shift of the sensors and of the capture lines, and two shifts in a row. -/
theorem synchronisersDelayTwoCycles : Obligations.SynchronisersDelayTwoCycles := by
  unfold Obligations.SynchronisersDelayTwoCycles
  refine ⟨fun p s hrst => ?_, fun p₁ p₂ s h₁ h₂ => ?_⟩
  · obtain ⟨hendM, hendS, hestM, hestS⟩ := cycle_sensors hrst s
    exact ⟨hendM, hendS, hestM, hestS, cycle_captureLines hrst s⟩
  · obtain ⟨hend, hest⟩ := runCycles_pair_samples h₁ h₂ s
    obtain ⟨hbtnM, _, _, hsecM, _, _, hpriM, _⟩ := cycle_captureLines h₁ s
    obtain ⟨_, hbtnS, _, _, hsecS, _, _, hpriS⟩ := cycle_captureLines h₂ (cycle p₁ s)
    exact ⟨hend, hest, hbtnS.trans hbtnM, hsecS.trans hsecM, hpriS.trans hpriM⟩

end Sys2Proof.Machine
end

section
/-! The settle delay of the button capture (R182, R183): one cycle of it, the cycles before its last, its
last cycle, and the idle logic. -/

namespace Sys2Proof.Machine

/-! ### One cycle of the settle logic -/

theorem settleLoad_toNat (c : Config) : (BitVec.ofNat 32 c.settleCycles).toNat = c.settleCycles := by
  rw [BitVec.toNat_ofNat, Nat.mod_eq_of_lt c.bounds.settleCycles.2]

/-- An edge found with the settle logic idle loads a full delay. -/
theorem cycle_settleCtr_of_edge {p : Ports} {s : State} (hrst : p.rst = false) (hidle : s.settleCtr = 0)
    (hedge : btnEdge s = true) : (cycle p s).settleCtr.toNat = s.cfg.settleCycles := by
  rw [cycle_settleCtr hrst, advanceSettle_settleCtr, if_pos hidle, if_pos hedge, settleLoad_toNat]

theorem cycle_settleCtr_of_quiet {p : Ports} {s : State} (hrst : p.rst = false) (hidle : s.settleCtr = 0)
    (hquiet : btnEdge s = false) : (cycle p s).settleCtr = 0 := by
  rw [cycle_settleCtr hrst, advanceSettle_settleCtr, if_pos hidle, hquiet, if_neg Bool.false_ne_true]

theorem cycle_btnPend_of_idle {p : Ports} {s : State} (hrst : p.rst = false) (hidle : s.settleCtr = 0) :
    (cycle p s).btnPend = s.btnPend := by
  rw [cycle_btnPend hrst, advanceSettle_btnPend, if_pos hidle]

/-- Before its last cycle a delay counts down and an edge is remembered. -/
theorem cycle_settle_counting {p : Ports} {s : State} (hrst : p.rst = false)
    (hcounting : 1 < s.settleCtr.toNat) :
    (cycle p s).settleCtr.toNat = s.settleCtr.toNat - 1 ∧
    (cycle p s).btnPend = (btnEdge s || s.btnPend) := by
  have hnotIdle : s.settleCtr ≠ 0 := by bv_omega
  have hnotLast : s.settleCtr ≠ 1 := by bv_omega
  rw [cycle_settleCtr hrst, advanceSettle_settleCtr, if_neg hnotIdle, if_neg hnotLast,
    cycle_btnPend hrst, advanceSettle_btnPend, if_neg hnotIdle, if_neg hnotLast]
  exact ⟨by bv_omega, rfl⟩

/-- The last cycle of a delay pays the pending edge, and its own, with a full new delay. -/
theorem cycle_settle_last {p : Ports} {s : State} (hrst : p.rst = false) (hlast : s.settleCtr = 1) :
    (cycle p s).btnPend = false ∧ (cycle p s).settleCtr.toNat =
      if s.btnPend = true ∨ btnEdge s = true then s.cfg.settleCycles else 0 := by
  have hnotIdle : s.settleCtr ≠ 0 := by rw [hlast]; decide
  rw [cycle_settleCtr hrst, advanceSettle_settleCtr, if_neg hnotIdle, if_pos hlast,
    cycle_btnPend hrst, advanceSettle_btnPend, if_neg hnotIdle, if_pos hlast,
    apply_ite BitVec.toNat, settleLoad_toNat, Bool.or_comm]
  exact ⟨rfl, by simp only [Bool.or_eq_true]; rfl⟩

theorem btnDue_iff_toNat {s : State} (hcap : s.capEn = true) : btnDue s = true ↔ s.settleCtr.toNat = 1 := by
  rw [btnDue_iff, BitVec.toNat_eq]
  exact and_iff_right hcap

/-! ### Runs of the settle logic -/

/-- The edges of a run in two parts. -/
theorem edgeSeen_append (ps qs : List Ports) (s : State) :
    edgeSeen (ps ++ qs) s = (edgeSeen ps s || edgeSeen qs (runCycles ps s)) := by
  induction ps generalizing s with
  | nil => rfl
  | cons p ps ih => simp only [List.cons_append, edgeSeen, ih, Bool.or_assoc]; rfl

theorem runCycles_capEn (ps : List Ports) {s : State} (hrst : ∀ p ∈ ps, p.rst = false)
    (hcap : s.capEn = true) : (runCycles ps s).capEn = true := by
  induction ps generalizing s with
  | nil => exact hcap
  | cons p ps ih =>
    exact ih (fun q hq => hrst q (List.mem_cons_of_mem p hq)) (cycle_capEn (hrst p List.mem_cons_self) hcap)

theorem runCycles_cfg (ps : List Ports) (s : State) : (runCycles ps s).cfg = s.cfg := by
  induction ps generalizing s with
  | nil => rfl
  | cons p ps ih => exact (ih _).trans (cycle_cfg p s)

/-- Over the cycles `ps` from `s` a delay has counted down to its value in `t`, without a sample. -/
structure DelayCounted (ps : List Ports) (s t : State) : Prop where
  counted : t.settleCtr.toNat = s.settleCtr.toNat - ps.length
  pending : t.btnPend = (s.btnPend || edgeSeen ps s)
  noSample : sampleCount ps s = 0

/-- Before its last cycle a delay only counts and remembers edges. -/
theorem delayCounted_runCycles (ps : List Ports) {s : State} (hrst : ∀ p ∈ ps, p.rst = false)
    (hlong : ps.length < s.settleCtr.toNat) : DelayCounted ps s (runCycles ps s) := by
  induction ps generalizing s with
  | nil => exact ⟨rfl, by simp [runCycles, edgeSeen], rfl⟩
  | cons p ps ih =>
    rw [List.length_cons] at hlong
    obtain ⟨hcount, hpend⟩ := cycle_settle_counting (hrst p List.mem_cons_self) (s := s) (by omega)
    have hrest := ih (s := cycle p s) (fun q hq => hrst q (List.mem_cons_of_mem p hq)) (by omega)
    have hnotLast : s.settleCtr ≠ 1 := by bv_omega
    have hnotDue : btnDue s = false :=
      Bool.eq_false_iff.mpr fun hdue => hnotLast ((btnDue_iff s).mp hdue).2
    refine ⟨?_, ?_, ?_⟩
    · rw [List.length_cons]
      have hcounted := hrest.counted
      change (runCycles ps (cycle p s)).settleCtr.toNat = _
      omega
    · calc (runCycles ps (cycle p s)).btnPend
          = ((btnEdge s || s.btnPend) || edgeSeen ps (cycle p s)) := by rw [hrest.pending, hpend]
        _ = (s.btnPend || edgeSeen (p :: ps) s) := by rw [edgeSeen, ← Bool.or_assoc, Bool.or_comm (btnEdge s)]
    · simp [sampleCount, hnotDue, hrest.noSample]

/-- What a whole delay over the cycles `ps` from `s` does: one sample, in its last cycle, and a new delay
exactly if an edge is owed one. -/
theorem delay_runCycles (ps : List Ports) {s : State} (hcap : s.capEn = true) (hon : s.settleCtr ≠ 0)
    (hrst : ∀ p ∈ ps, p.rst = false) (hlen : ps.length = s.settleCtr.toNat) :
    sampleCount ps s = 1 ∧ btnDue (runCycles ps.dropLast s) = true ∧
    (runCycles ps s).btnPend = false ∧ (runCycles ps s).settleCtr.toNat =
      if s.btnPend = true ∨ edgeSeen ps s = true then s.cfg.settleCycles else 0 := by
  rcases List.eq_nil_or_concat ps with rfl | ⟨qs, q, rfl⟩
  · exact absurd (BitVec.eq_of_toNat_eq hlen.symm) hon
  · simp only [List.concat_eq_append, List.length_append, List.length_singleton, List.mem_append,
      List.mem_singleton] at hlen hrst ⊢
    have hqs : ∀ p ∈ qs, p.rst = false := fun p hp => hrst p (.inl hp)
    have hbefore := delayCounted_runCycles qs (s := s) hqs (by omega)
    have hlast : (runCycles qs s).settleCtr.toNat = 1 := by rw [hbefore.counted]; omega
    have hdue := (btnDue_iff_toNat (runCycles_capEn qs hqs hcap)).mpr hlast
    obtain ⟨hpaid, hnext⟩ := cycle_settle_last (hrst q (.inr rfl)) ((btnDue_iff _).mp hdue).2
    rw [hbefore.pending, runCycles_cfg] at hnext
    refine ⟨?_, by rwa [List.dropLast_concat], ?_, ?_⟩
    · rw [sampleCount_append, hbefore.noSample]
      simp [sampleCount, hdue, hrst q (.inr rfl)]
    · rwa [runCycles_append]
    · rw [runCycles_append, edgeSeen_append]
      refine hnext.trans ?_
      simp [edgeSeen, or_assoc]

/-- Without an edge the idle settle logic stays as it is and samples nothing. -/
theorem idle_runCycles (ps : List Ports) {s : State} (hrst : ∀ p ∈ ps, p.rst = false)
    (hidle : s.settleCtr = 0) (hquiet : edgeSeen ps s = false) :
    sampleCount ps s = 0 ∧ (runCycles ps s).settleCtr = 0 ∧ (runCycles ps s).btnPend = s.btnPend := by
  induction ps generalizing s with
  | nil => exact ⟨rfl, hidle, rfl⟩
  | cons p ps ih =>
    obtain ⟨hnow, hlater⟩ := Bool.or_eq_false_iff.mp hquiet
    have hp := hrst p List.mem_cons_self
    obtain ⟨hnone, hstays, hpend⟩ := ih (fun q hq => hrst q (List.mem_cons_of_mem p hq))
      (cycle_settleCtr_of_quiet hp hidle hnow) hlater
    refine ⟨?_, hstays, hpend.trans (cycle_btnPend_of_idle hp hidle)⟩
    simp [sampleCount, hnone, btnDue, hidle]

/-- From an idle edge the BTN is due in the last cycle of the delay that the edge starts. -/
theorem btnDue_after_edge (ps : List Ports) {s : State} (hidle : s.settleCtr = 0) (hedge : btnEdge s = true)
    (hrst : ∀ p ∈ ps, p.rst = false) (hsome : 0 < ps.length) (hlen : ps.length ≤ s.cfg.settleCycles) :
    btnDue (runCycles ps s) = true ↔ ps.length = s.cfg.settleCycles := by
  cases ps with
  | nil => cases hsome
  | cons p ps =>
    rw [List.length_cons] at hlen ⊢
    have hp := hrst p List.mem_cons_self
    have hps : ∀ q ∈ ps, q.rst = false := fun q hq => hrst q (List.mem_cons_of_mem p hq)
    have hcap : s.capEn = true := (Bool.and_eq_true_iff.mp hedge).1
    have hload := cycle_settleCtr_of_edge hp hidle hedge
    have hcounted := (delayCounted_runCycles ps (s := cycle p s) hps (by omega)).counted
    change btnDue (runCycles ps (cycle p s)) = true ↔ _
    rw [btnDue_iff_toNat (runCycles_capEn ps hps (cycle_capEn hp hcap))]
    omega

/-- Settles O54: the delay an idle edge starts, a whole delay, and a whole delay with a quiet time after
it, which is a second delay or idle. -/
theorem settleDelayIsExact : Obligations.SettleDelayIsExact := by
  unfold Obligations.SettleDelayIsExact
  refine ⟨fun ps s => btnDue_after_edge ps, fun ps s => delay_runCycles ps,
    fun ps qs s hcap hon hrst hps hqs hquiet => ?_⟩
  have hrstPs : ∀ p ∈ ps, p.rst = false := fun p hp => hrst p (List.mem_append_left qs hp)
  have hrstQs : ∀ q ∈ qs, q.rst = false := fun q hq => hrst q (List.mem_append_right ps hq)
  obtain ⟨hone, _, hpaid, hnext⟩ := delay_runCycles ps hcap hon hrstPs hps
  rw [sampleCount_append, runCycles_append, hone]
  by_cases howed : s.btnPend = true ∨ edgeSeen ps s = true
  · rw [if_pos howed] at hnext ⊢
    have hagain : (runCycles ps s).settleCtr ≠ 0 := by
      have hpos := s.cfg.bounds.settleCycles.1
      bv_omega
    obtain ⟨hsecond, _, hpend, hend⟩ := delay_runCycles qs (runCycles_capEn ps hrstPs hcap) hagain hrstQs
      (hqs.trans hnext.symm)
    simp only [hpaid, hquiet, Bool.false_eq_true, or_self, if_false] at hend
    exact ⟨by rw [hsecond], BitVec.eq_of_toNat_eq hend, hpend⟩
  · rw [if_neg howed] at hnext ⊢
    obtain ⟨hnone, hidle, hpend⟩ := idle_runCycles qs hrstQs (BitVec.eq_of_toNat_eq hnext) hquiet
    exact ⟨by rw [hnone], hidle, hpend.trans hpaid⟩

end Sys2Proof.Machine
end

section
/-! The refinement of the event level by the cycle level (R193): the steps of a cycle as an event-level
run, the projection of a run, and the event-level run that no waveform produces. -/

namespace Sys2Proof.Machine

/-! ### Event-level runs from states with the same architected registers -/

theorem runSteps_cons {i : Instr} {s : State} (h : enabled i s = true) (is : List Instr) :
    runSteps (i :: is) s = runSteps is (applyStep s i) := by
  simp only [runSteps, exec_next_of_enabled h]

theorem enabled_congr {s t : State} (h : arch s = arch t) (i : Instr) : enabled i s = enabled i t := by
  have hrun : s.run = t.run := congrArg Arch.run h
  have hcap : s.capEn = t.capEn := congrArg Arch.capEn h
  cases i with
  | tick _ _ => exact hrun
  | btn _ => exact hcap
  | rot _ _ => exact hcap
  | _ => rfl

/-- Where an event-level run ends in the architected registers depends on them and the configuration
alone. -/
theorem runSteps_congr (is : List Instr) {s t u : State} (harch : arch s = arch t) (hcfg : s.cfg = t.cfg)
    (h : runSteps is s = .next u) : ∃ v, runSteps is t = .next v ∧ arch v = arch u := by
  induction is generalizing s t with
  | nil =>
    cases h
    exact ⟨t, rfl, harch.symm⟩
  | cons i is ih =>
    cases he : exec i s with
    | next s' =>
      have hs := enabled_of_exec_next he
      rw [runSteps_cons hs] at h
      rw [runSteps_cons (enabled_congr harch i ▸ hs)]
      exact ih (arch_applyStep_congr i harch hcfg) (by simp [hcfg]) h
    | fault r => simp [runSteps, he] at h
    | refused r => simp [runSteps, he] at h

theorem arch_foldl_congr (is : List Instr) {s t : State} (harch : arch s = arch t) (hcfg : s.cfg = t.cfg) :
    arch (is.foldl applyStep s) = arch (is.foldl applyStep t) := by
  induction is generalizing s t with
  | nil => exact harch
  | cons i is ih => exact ih (arch_applyStep_congr i harch hcfg) (by simp [hcfg])

/-! ### The steps of a cycle are an event-level run -/

theorem enabled_of_isCommand {i : Instr} (h : isCommand i = true) (s : State) : enabled i s = true := by
  cases i with
  | tick _ _ => cases h
  | btn _ => cases h
  | rot _ _ => cases h
  | _ => rfl

theorem ne_rst_of_isCommand {i : Instr} (h : isCommand i = true) : i ≠ .rst := by
  rintro rfl
  cases h

/-- One event of a cycle under its condition, as an event-level run. -/
theorem runSteps_stepIf {due : Bool} {i : Instr} {u : State} (h : due = true → enabled i u = true) :
    runSteps (if due = true then [i] else []) u = .next (stepIf due i u) := by
  cases due with
  | false => rfl
  | true => exact runSteps_cons (h rfl) []

/-- Each event of a cycle is enabled where it is taken: the TICK leaves `CAP_EN`, and so does BTN. -/
theorem runSteps_cycleEvents {s u : State} (hrun : u.run = s.run) (hcap : s.capEn = true → u.capEn = true) :
    runSteps (cycleEvents s) u = .next ((cycleEvents s).foldl applyStep u) := by
  have htick : tickDue s = true → enabled (.tick s.endS s.estS) u = true := fun hdue =>
    hrun.trans ((tickDue_iff s).mp hdue).1
  have htickCap := stepIf_frame State.capEn
    (applyStep_tick_frame State.capEn (by simp) s.endS s.estS u) (tickDue s)
  have hbtn : btnDue s = true →
      enabled (.btn s.btnS) (stepIf (tickDue s) (.tick s.endS s.estS) u) = true := fun hdue =>
    htickCap.trans (hcap ((btnDue_iff s).mp hdue).1)
  have hbtnCap := stepIf_frame State.capEn (applyStep_btn_frame State.capEn (by simp) (by simp) s.btnS
    (stepIf (tickDue s) (.tick s.endS s.estS) u)) (btnDue s)
  have hrot : rotDue s = true → enabled (.rot s.secS s.priS) (stepIf (btnDue s) (.btn s.btnS)
      (stepIf (tickDue s) (.tick s.endS s.estS) u)) = true := fun hdue =>
    (hbtnCap.trans htickCap).trans (hcap ((rotDue_iff s).mp hdue).1)
  rw [foldl_cycleEvents, cycleEvents,
    runSteps_append _ _ ((runSteps_append _ _ (runSteps_stepIf htick)).trans (runSteps_stepIf hbtn)),
    runSteps_stepIf hrot]

/-- The steps of a cycle are an event-level run from its registers. -/
theorem runSteps_cycleSteps (p : Ports) (s : State) :
    runSteps (cycleSteps p s) s = .next ((cycleSteps p s).foldl applyStep s) := by
  rcases cycleSteps_cases p s with hsteps | ⟨i, hcmd, hsteps⟩ | ⟨i, hcmd, hbefore, hsteps⟩
  · rw [hsteps, runSteps_cycleEvents rfl id]
  · rw [hsteps, runSteps_append _ _ (runSteps_cycleEvents rfl id),
      runSteps_cons (enabled_of_isCommand hcmd _), List.foldl_append]
    rfl
  · obtain ⟨hrun, _⟩ := applyStep_before_events hcmd hbefore s.endS s
    rw [hsteps, runSteps_cons (enabled_of_isCommand hcmd s),
      runSteps_cycleEvents hrun (applyStep_capEn (ne_rst_of_isCommand hcmd))]
    rfl

/-- One cycle refines its projection: the cycle's own update is not seen at the event level. -/
theorem cycle_refines (p : Ports) (s : State) :
    ∃ t, runSteps (projectCycle p s) s = .next t ∧ arch t = arch (cycle p s) ∧ t.cfg = s.cfg := by
  unfold projectCycle
  cases hrst : p.rst with
  | true => exact ⟨resetRegisters s, rfl, by rw [cycle_of_rst hrst], rfl⟩
  | false =>
    refine ⟨_, runSteps_cycleSteps p s, ?_, foldl_applyStep_cfg _ _⟩
    rw [cycle_of_not_rst hrst, arch_drive]
    exact arch_foldl_congr _ (arch_advanceHidden p s).symm (advanceHidden_cfg p s).symm

/-- A cycle-level run refines its projection, cycle by cycle. -/
theorem runCycles_refines (ps : List Ports) (s : State) :
    ∃ t, runSteps (projectRun ps s) s = .next t ∧ arch t = arch (runCycles ps s) := by
  induction ps generalizing s with
  | nil => exact ⟨s, rfl, rfl⟩
  | cons p ps ih =>
    obtain ⟨t, hcycle, harch, hcfg⟩ := cycle_refines p s
    obtain ⟨u, hrest, hend⟩ := ih (cycle p s)
    obtain ⟨v, hrun, hsame⟩ := runSteps_congr _ harch.symm ((cycle_cfg p s).trans hcfg.symm) hrest
    exact ⟨v, (runSteps_append _ _ hcycle).trans hrun, hsame.trans hend⟩

/-! ### What one cycle contributes (R236, R237) -/

theorem projectRun_singleton (p : Ports) (s : State) : projectRun [p] s = projectCycle p s :=
  List.append_nil _

theorem projectCycle_of_idle {p : Ports} (hidle : idlePorts p = true) (s : State) :
    projectCycle p s = cycleEvents s := by
  simp only [idlePorts, Bool.and_eq_true, Bool.not_eq_true'] at hidle
  obtain ⟨hrst, hvalid⟩ := hidle
  simp [projectCycle, cycleSteps, cycleCommand, hrst, hvalid]

theorem projectCycle_of_command {p : Ports} (hrst : p.rst = false) (hvalid : p.cmdValid = true)
    (s : State) : projectCycle p s = if afterEvents (decodeCommand p.cmdWord) = true
      then cycleEvents s ++ [decodeCommand p.cmdWord] else decodeCommand p.cmdWord :: cycleEvents s := by
  simp [projectCycle, cycleSteps, cycleCommand, hrst, hvalid]

/-! ### The run that no waveform produces (R193) -/

/-- A cycle that contributes only ROT events contributes one exactly if the secondary line changed. -/
theorem projectCycle_of_rots {p : Ports} {s : State}
    (h : ∀ i ∈ projectCycle p s, ∃ q r, i = .rot q r) :
    p.rst = false ∧ projectCycle p s = if rotDue s = true then [.rot s.secS s.priS] else [] := by
  have hcommand : ∀ i, isCommand i = true → i ∉ projectCycle p s := fun i hcmd hmem => by
    obtain ⟨q, r, rfl⟩ := h i hmem
    cases hcmd
  have hrst : p.rst = false := by
    by_contra hreset
    obtain ⟨q, r, hrot⟩ := h .rst (by simp [projectCycle, hreset])
    cases hrot
  have hproject : projectCycle p s = cycleSteps p s := by simp [projectCycle, hrst]
  rw [hproject] at h hcommand ⊢
  rcases cycleSteps_cases p s with hsteps | ⟨i, hcmd, hsteps⟩ | ⟨i, hcmd, _, hsteps⟩
  · rw [hsteps] at h ⊢
    have htick : tickDue s ≠ true := fun hdue => by
      simpa using h (.tick s.endS s.estS) (by simp [cycleEvents, hdue])
    have hbtn : btnDue s ≠ true := fun hdue => by
      simpa using h (.btn s.btnS) (by simp [cycleEvents, hdue])
    exact ⟨hrst, by simp [cycleEvents, htick, hbtn]⟩
  · exact absurd (by simp [hsteps]) (hcommand i hcmd)
  · exact absurd (by simp [hsteps]) (hcommand i hcmd)

theorem cycle_secP {p : Ports} (hrst : p.rst = false) (s : State) : (cycle p s).secP = s.secS := by
  obtain ⟨_, _, _, _, _, hsecP, _⟩ := cycle_captureLines hrst s
  exact hsecP

/-- The first cycle of a run that projects to ROT events alone: with no change of the secondary line it
contributes nothing, else the first of them. -/
theorem projectRun_rots_cases {p : Ports} {ps : List Ports} {s : State} {is : List Instr}
    (hcap : s.capEn = true) (hrots : ∀ i ∈ is, ∃ q r, i = .rot q r) (h : projectRun (p :: ps) s = is) :
    (cycle p s).capEn = true ∧ (cycle p s).secP = s.secS ∧
    ((s.secS = s.secP ∧ projectRun ps (cycle p s) = is) ∨
      (s.secS ≠ s.secP ∧ is = .rot s.secS s.priS :: projectRun ps (cycle p s))) := by
  have hfirst : projectCycle p s ++ projectRun ps (cycle p s) = is := h
  obtain ⟨hrst, hproject⟩ := projectCycle_of_rots (p := p) (s := s) fun i hi =>
    hrots i (hfirst ▸ List.mem_append_left _ hi)
  refine ⟨cycle_capEn hrst hcap, cycle_secP hrst s, ?_⟩
  rw [hproject] at hfirst
  by_cases hedge : s.secS = s.secP
  · have hnot : rotDue s ≠ true := fun hdue => ((rotDue_iff s).mp hdue).2 hedge
    rw [if_neg hnot] at hfirst
    exact .inl ⟨hedge, hfirst⟩
  · rw [if_pos ((rotDue_iff s).mpr ⟨hcap, hedge⟩)] at hfirst
    exact .inr ⟨hedge, hfirst.symm⟩

/-- With the secondary line high in the cycle before, the next ROT is a falling edge. -/
theorem projectRun_ne_rot_of_secP (ps : List Ports) {s : State} (hcap : s.capEn = true)
    (hhigh : s.secP = true) (r : Bool) : projectRun ps s ≠ [.rot true r] := by
  induction ps generalizing s with
  | nil => simp [projectRun]
  | cons p ps ih =>
    intro h
    obtain ⟨hcap', hsecP, ⟨hsame, hrest⟩ | ⟨hedge, his⟩⟩ := projectRun_rots_cases hcap (by simp) h
    · exact ih hcap' (hsecP.trans (hsame.trans hhigh)) hrest
    · obtain ⟨hrot, _⟩ := List.cons.inj his
      obtain ⟨hrising, _⟩ := Instr.rot.inj hrot
      exact hedge (hrising.symm.trans hhigh.symm)

/-- Between two rising edges of the secondary line there is a falling one, so no waveform has two ROT with
`q = 1` in a row. -/
theorem projectRun_ne_rot_rot (ps : List Ports) {s : State} (hcap : s.capEn = true) (r₁ r₂ : Bool) :
    projectRun ps s ≠ [.rot true r₁, .rot true r₂] := by
  induction ps generalizing s with
  | nil => simp [projectRun]
  | cons p ps ih =>
    intro h
    obtain ⟨hcap', hsecP, ⟨_, hrest⟩ | ⟨_, his⟩⟩ := projectRun_rots_cases hcap (by simp) h
    · exact ih hcap' hrest
    · obtain ⟨hrot, hrest⟩ := List.cons.inj his
      obtain ⟨hrising, _⟩ := Instr.rot.inj hrot
      exact projectRun_ne_rot_of_secP ps hcap' (hsecP.trans hrising.symm) r₂ hrest.symm

/-- Settles O48: the refinement cycle by cycle, the projection of one cycle, and the failing converse. -/
theorem cyclesRefineEventLevel : Obligations.CyclesRefineEventLevel := by
  unfold Obligations.CyclesRefineEventLevel
  refine ⟨runCycles_refines, fun p s _ => ?_, fun s r₁ r₂ hcap => ⟨?_, fun ps => ?_⟩⟩
  · intro events
    have hevents : cycleEvents s = events := by
      simp only [cycleEvents, tickDue_iff, btnDue_iff, rotDue_iff, events]
    simp only [projectRun_singleton, ← hevents]
    refine ⟨fun hrst => ?_, fun hidle => projectCycle_of_idle hidle s, ?_, ?_⟩
    · simp [projectCycle, hrst]
    · rintro i hrst hvalid rfl hread
      have hbefore : afterEvents (decodeCommand p.cmdWord) = false := by
        obtain ⟨a, h | h | h | h | h | h | h⟩ := hread <;> rw [h] <;> rfl
      rw [projectCycle_of_command hrst hvalid, hbefore, if_neg Bool.false_ne_true]
    · rintro i hrst hvalid rfl htiming
      have hafter : afterEvents (decodeCommand p.cmdWord) = true := by
        obtain ⟨a, h | h | h | h⟩ | ⟨g, d, h⟩ := htiming <;> rw [h] <;> rfl
      rw [projectCycle_of_command hrst hvalid, hafter, if_pos rfl]
  · exact ⟨_, (runSteps_pair _ _ _ _).mpr ⟨hcap, applyStep_capEn (by simp) hcap, rfl⟩⟩
  · exact projectRun_ne_rot_rot ps hcap r₁ r₂

end Sys2Proof.Machine
end

section
/-! NOP, GET_STATUS, the reserved encodings and RST (R220 to R223, R76). -/

namespace Sys2Proof.Machine

/-! ### NOP (R220) -/

theorem exec_nop (arg : Word) (s : State) : exec (.nop arg) s = .next { s with out := {} } := rfl

theorem applyStep_nop (arg : Word) (s : State) : applyStep s (.nop arg) = drive silent s := rfl

/-- Without reset, a cycle with a NOP is its own update and its events. The NOP goes first (R237 (a)) and
writes the outputs, which no step reads and the end of the cycle drives anew. -/
theorem cycle_of_nop {p : Ports} {arg : Word} (hrst : p.rst = false) (hvalid : p.cmdValid = true)
    (hcmd : decodeCommand p.cmdWord = .nop arg) (s : State) : cycle p s =
    drive { pulse := cyclePulse s } ((cycleEvents s).foldl applyStep (advanceHidden p s)) := by
  have hcommand : cycleCommand p = some (.nop arg) := by simp [cycleCommand, hvalid, hcmd]
  have hsteps : cycleSteps p s = .nop arg :: cycleEvents s := by simp [cycleSteps, hcommand, afterEvents]
  have hresponse : cycleResponse p s = silent := by simp [cycleResponse, hcommand, applyStep_nop]
  rw [cycle_of_not_rst hrst, hsteps, hresponse, List.foldl_cons, applyStep_nop]
  exact drive_foldl_drive _ _ _ _

/-- Settles O9: the event, and the cycle with and without reset. -/
theorem nopChangesNothing : Obligations.NopChangesNothing := by
  unfold Obligations.NopChangesNothing
  refine ⟨exec_nop, fun p arg s hcmd => ?_⟩
  rcases Bool.eq_false_or_eq_true p.rst with hrst | hrst
  · rw [cycle_of_rst (p := { p with cmdValid := true }) hrst,
      cycle_of_rst (p := { p with cmdValid := false }) hrst]
  · have hidle : idlePorts { p with cmdValid := false } = true := by simp [idlePorts, hrst]
    rw [cycle_of_nop (p := { p with cmdValid := true }) hrst rfl hcmd, cycle_of_idle hidle,
      advanceHidden_command p true p.cmdWord s, advanceHidden_command p false p.cmdWord s]

/-! ### GET_STATUS (R74, R221) -/

section
variable (s : State)

/-- The flag at the foot of the status word is read back: the other fields start above it. -/
theorem statusWord_run : (statusWord s).getLsbD 0 = s.run := by
  simp only [statusWord, BitVec.getLsbD_or, fieldAt_getLsbD]
  simp

/-- The flag in bit 7 is read back: the other fields start above it or end below it. -/
theorem statusWord_capEn : (statusWord s).getLsbD 7 = s.capEn := by
  simp only [statusWord, BitVec.getLsbD_or, fieldAt_getLsbD]
  simp

/-- The wider fields lie beside each other and beside the two flags, with eight free places. -/
theorem statusWord_fields :
    (statusWord s).extractLsb' 1 2 = stopReasonCode s.stopReason ∧
    (statusWord s).extractLsb' 3 2 = dirCode s.stopDir ∧
    (statusWord s).extractLsb' 5 2 = dirCode s.desiredDir ∧
    (statusWord s).extractLsb' 8 8 = 0 ∧
    (statusWord s).extractLsb' 16 16 = s.debCnt := by
  simp [statusWord, BitVec.extractLsb'_or, extract_fieldAt_same, extract_fieldAt_beside]

end

theorem exec_getStatus (arg : Word) (s : State) :
    exec (.getStatus arg) s = .next { s with out := { rspData := statusWord s } } := rfl

/-- Settles O20: the fields of the status word, with the codes of R80 and R81 written out. -/
theorem getStatusLayout : Obligations.GetStatusLayout := by
  unfold Obligations.GetStatusLayout
  intro arg s
  obtain ⟨hreason, hstopDir, hdesired, hfree, hcount⟩ := statusWord_fields s
  refine ⟨statusWord s, exec_getStatus arg s, statusWord_run s, hreason.trans ?_, hstopDir.trans ?_,
    hdesired.trans ?_, statusWord_capEn s, hfree, hcount⟩
  · cases s.stopReason <;> rfl
  · cases s.stopDir <;> rfl
  · cases s.desiredDir <;> rfl

/-! ### The reserved encodings (R76, R222) -/

/-- The four reserved opcodes answer the error and write no state (R222). -/
theorem exec_reserved (arg : Word) (s : State) :
    exec (.reservedC arg) s = .next { s with out := { rspErr := true } } ∧
    exec (.reservedD arg) s = .next { s with out := { rspErr := true } } ∧
    exec (.reservedE arg) s = .next { s with out := { rspErr := true } } ∧
    exec (.reservedF arg) s = .next { s with out := { rspErr := true } } :=
  ⟨rfl, rfl, rfl, rfl⟩

/-- Settles O10: the reserved opcodes, and the fourth code of SET_DIR. -/
theorem reservedEncodingsOnlyRaiseError : Obligations.ReservedEncodingsOnlyRaiseError := by
  unfold Obligations.ReservedEncodingsOnlyRaiseError
  refine fun s => ⟨fun arg => exec_reserved arg s, fun ignored => ?_⟩
  obtain ⟨_, _, _, hreserved⟩ := exec_setDir ignored s
  exact hreserved

/-! ### RST (R42, R223) -/

theorem exec_rst (s : State) : exec .rst s = .next (resetRegisters s) := rfl

/-- Settles O27: RST and a cycle with reset both end in `resetRegisters s`, whose registers hold their
reset values (R42) and whose configuration and schedule are those of `s`. -/
theorem resetClearsEveryRegister : Obligations.ResetClearsEveryRegister := by
  unfold Obligations.ResetClearsEveryRegister
  refine fun s => ⟨resetRegisters s, exec_rst s, fun _ hrst => cycle_of_rst hrst s, ?_⟩
  and_intros <;> rfl

end Sys2Proof.Machine
end

section
/-! Failure reports and automatic stops (R231 to R233, R239), and the order of a command and the events of
its cycle (R237). -/

namespace Sys2Proof.Machine

/-! ### What leaves the motor stopped (R232, R233) -/

/-- A RECONFIGURE whose response lacks the OK bit is one of the two failures, and both are a STOP on the
registers (R232). -/
theorem reconfigureTo_of_not_ok {rate : Nat} {s : State}
    (hfail : (reconfigureTo rate s).out.rspData.getLsbD 0 = false) :
    motorStopped (reconfigureTo rate s) ∧ (reconfigureTo rate s).stopReason = s.stopReason := by
  have hok (u : State) : (drive (response rspOk) u).out.rspData.getLsbD 0 ≠ false :=
    show rspOk.getLsbD 0 ≠ false by decide
  rcases reconfigureTo_cases rate s with ⟨_, ht⟩ | ⟨_, _, ht⟩ | ⟨_, _, ht⟩ | ⟨_, _, _, _, ht⟩
  · exact absurd (ht ▸ hfail) (hok _)
  · rw [ht]; exact ⟨rfl, rfl⟩
  · rw [ht]; exact ⟨rfl, rfl⟩
  · exact absurd (ht ▸ hfail) (hok _)

/-- RECONFIGURE sets no reason: its failures keep it and its successes clear it (R111). -/
theorem reconfigureTo_stopReason (rate : Nat) (s : State) :
    (reconfigureTo rate s).stopReason = s.stopReason ∨ (reconfigureTo rate s).stopReason = .none := by
  rcases reconfigureTo_cases rate s with ⟨_, ht⟩ | ⟨_, _, ht⟩ | ⟨_, _, ht⟩ | ⟨_, _, _, _, ht⟩
  · rw [ht]; exact .inr rfl
  · rw [ht]; exact .inl rfl
  · rw [ht]; exact .inl rfl
  · rw [ht]; exact .inr rfl

/-- A step keeps the stop reason or clears it, or it is a TICK: automatic stops are taken nowhere else
(R239). -/
theorem stopReason_of_exec {i : Instr} {s t : State} (h : exec i s = .next t) :
    t.stopReason = s.stopReason ∨ t.stopReason = .none ∨ ∃ e f, t = tickDecision e f s := by
  cases stepEffect_of_exec h with
  | tick e f _ => exact .inr (.inr ⟨e, f, rfl⟩)
  | reconfigure rate => exact (reconfigureTo_stopReason (rateOf rate) s).imp_right .inl
  | initTimer _ => exact .inr (.inl rfl)
  | clearStopReason _ => exact .inr (.inl rfl)
  | rst => exact .inr (.inl rfl)
  | _ => exact .inl rfl

/-- A TICK that changes the stop reason took one of the two stops, and so neither runs on nor pulses. -/
theorem tickDecision_of_new_reason {e f : Bool} {s : State}
    (hnew : (tickDecision e f s).stopReason ≠ s.stopReason) :
    motorStopped (tickDecision e f s) ∧ (tickDecision e f s).out.pulse = false := by
  have hstop : (!endstopDue e s && !f) = false := by
    by_contra hpulse
    obtain ⟨hdue, rfl⟩ : endstopDue e s = false ∧ f = false := by simpa using hpulse
    exact hnew (by simp [tickDecision_stopReason, hdue])
  rw [motorStopped, tickDecision_run, tickDecision_out, Bool.and_assoc, hstop]
  exact ⟨Bool.and_false _, rfl⟩

/-- Settles O36: the two failures of RECONFIGURE, and the TICK as the only step that sets a reason. -/
theorem failedReconfigureAndAutomaticStopStopMotor :
    Obligations.FailedReconfigureAndAutomaticStopStopMotor := by
  unfold Obligations.FailedReconfigureAndAutomaticStopStopMotor
  refine ⟨fun s rate => ⟨_, rfl, reconfigureTo_of_not_ok⟩, fun i s t h hnew hsome => ?_⟩
  rcases stopReason_of_exec h with hkept | hnone | ⟨e, f, rfl⟩
  · exact absurd hkept hnew
  · exact absurd hnone hsome
  · exact tickDecision_of_new_reason hnew

/-! ### Commands that act on the accumulators at most (R237 (a)) -/

/-- The state, without its outputs, with its two accumulators updated. -/
def mapAccumulators (f : Buttons → Buttons) (g : Word → Word) (s : State) : State :=
  { quiet s with btnAcc := f s.btnAcc, rotAcc := g s.rotAcc }

/-- The events of a cycle do not depend on the accumulators or the outputs. -/
theorem cycleEvents_mapAccumulators (f : Buttons → Buttons) (g : Word → Word) (s : State) :
    cycleEvents (mapAccumulators f g s) = cycleEvents s := rfl

/-- A cycle's own update neither reads nor writes the accumulators and the outputs. -/
theorem advanceHidden_mapAccumulators (f : Buttons → Buttons) (g : Word → Word) (p : Ports) (s : State) :
    advanceHidden p (mapAccumulators f g s) = mapAccumulators f g (advanceHidden p s) := by
  have hpsc : (advanceTimer (mapAccumulators f g s)).psc = (advanceTimer s).psc := by
    rw [advanceTimer_psc, advanceTimer_psc]; rfl
  have htcnt : (advanceTimer (mapAccumulators f g s)).tcnt = (advanceTimer s).tcnt := by
    rw [advanceTimer_tcnt, advanceTimer_tcnt]; rfl
  have hpulse : (advancePulse (mapAccumulators f g s)).pwCtr = (advancePulse s).pwCtr :=
    BitVec.eq_of_toNat_eq (by rw [advancePulse_pwCtr, advancePulse_pwCtr]; rfl)
  have hsettle : (advanceSettle (mapAccumulators f g s)).settleCtr = (advanceSettle s).settleCtr := by
    rw [advanceSettle_settleCtr, advanceSettle_settleCtr]; rfl
  have hpend : (advanceSettle (mapAccumulators f g s)).btnPend = (advanceSettle s).btnPend := by
    rw [advanceSettle_btnPend, advanceSettle_btnPend]; rfl
  rw [advanceHidden_eq, advanceHidden_eq, hpsc, htcnt, hpulse, hsettle, hpend]
  rfl

theorem advanceHidden_quiet (p : Ports) (s : State) :
    advanceHidden p (quiet s) = quiet (advanceHidden p s) := advanceHidden_mapAccumulators id id p s

/-- NOP, the reads and the drains: the commands of R237 (a) but for INIT_INPUTS. -/
def isReadOrDrain : Instr → Bool
  | .nop _ | .getStopReason _ | .getStatus _ | .getTimerCfg _ | .drainButtons _ | .drainRotary _ => true
  | _ => false

theorem afterEvents_of_isReadOrDrain {i : Instr} (h : isReadOrDrain i = true) : afterEvents i = false := by
  cases i with
  | initTimer _ => cases h
  | reconfigure _ => cases h
  | stop _ => cases h
  | setDir _ _ => cases h
  | clearStopReason _ => cases h
  | _ => rfl

/-- A read writes no register, and a drain its accumulator alone (R188, R189). -/
theorem quiet_applyStep_of_isReadOrDrain {i : Instr} (h : isReadOrDrain i = true) :
    ∃ f g, ∀ s, quiet (applyStep s i) = mapAccumulators f g s := by
  cases i with
  | drainButtons _ => exact ⟨fun _ => 0, id, fun _ => rfl⟩
  | drainRotary _ => exact ⟨id, fun _ => 0, fun _ => rfl⟩
  | nop _ => exact ⟨id, id, fun _ => rfl⟩
  | getStopReason _ => exact ⟨id, id, fun _ => rfl⟩
  | getStatus _ => exact ⟨id, id, fun _ => rfl⟩
  | getTimerCfg _ => exact ⟨id, id, fun _ => rfl⟩
  | _ => cases h

/-- Outputs of the state before a list of steps do not reach the registers after it. -/
theorem quiet_foldl_congr {s t : State} (h : quiet s = quiet t) (is : List Instr) :
    quiet (is.foldl applyStep s) = quiet (is.foldl applyStep t) := by
  induction is generalizing s t with
  | nil => exact h
  | cons i is ih => exact ih (quiet_applyStep_congr h i)

/-- A read or drain of a cycle acts on the registers of the cycle; the cycle then runs without it. -/
theorem quiet_cycle_of_isReadOrDrain {p : Ports} {i : Instr} (hrst : p.rst = false)
    (hvalid : p.cmdValid = true) (hcmd : decodeCommand p.cmdWord = i) (hi : isReadOrDrain i = true)
    (s : State) :
    quiet (cycle p s) = quiet (cycle { p with cmdValid := false } (applyStep s i)) := by
  obtain ⟨f, g, heffect⟩ := quiet_applyStep_of_isReadOrDrain hi
  have hidle : idlePorts { p with cmdValid := false } = true := by simp [idlePorts, hrst]
  have hevents : cycleEvents (applyStep s i) = cycleEvents s := by
    calc cycleEvents (applyStep s i) = cycleEvents (quiet (applyStep s i)) := rfl
      _ = cycleEvents s := by rw [heffect, cycleEvents_mapAccumulators]
  have hhidden : quiet (applyStep (advanceHidden p s) i) = quiet (advanceHidden p (applyStep s i)) := by
    calc quiet (applyStep (advanceHidden p s) i) = mapAccumulators f g (advanceHidden p s) := heffect _
      _ = advanceHidden p (quiet (applyStep s i)) := by rw [heffect, advanceHidden_mapAccumulators]
      _ = quiet (advanceHidden p (applyStep s i)) := advanceHidden_quiet p _
  calc quiet (cycle p s)
      = quiet ((cycleEvents s).foldl applyStep (applyStep (advanceHidden p s) i)) :=
        cycle_of_before_events quiet (fun _ _ => rfl) hrst hvalid hcmd (afterEvents_of_isReadOrDrain hi) s
    _ = quiet ((cycleEvents s).foldl applyStep (advanceHidden p (applyStep s i))) :=
        quiet_foldl_congr hhidden _
    _ = quiet (cycle { p with cmdValid := false } (applyStep s i)) := by
        rw [cycle_of_idle hidle, hevents]; rfl

/-! ### INIT_INPUTS in its cycle (R237 (a)) -/

theorem quiet_applyStep_initInputs (arg : Word) (s : State) :
    quiet (applyStep s (.initInputs arg)) = quiet (enableCapture s) := rfl

theorem enableCapture_of_capEn {s : State} (h : s.capEn = true) : enableCapture s = s := by
  rw [enableCapture, ← h]

/-- The per-tick decision neither reads nor writes `CAP_EN` (R38). -/
theorem tickDecision_enableCapture (e f : Bool) (s : State) :
    tickDecision e f (enableCapture s) = enableCapture (tickDecision e f s) := by
  have hdebounced : debounced e (enableCapture s) = enableCapture (debounced e s) := by
    by_cases hat : debounceCount e s = s.cfg.threshold
    · rw [debounced_of_threshold hat, debounced_of_threshold (s := enableCapture s) hat]; rfl
    · rw [debounced_of_ne_threshold hat, debounced_of_ne_threshold (s := enableCapture s) hat]; rfl
  have hdue : endstopDue e (enableCapture s) = endstopDue e s := rfl
  rw [tickDecision_eq, tickDecision_eq, hdue, hdebounced]
  split
  · rfl
  · cases f <;> rfl

/-- The events of a cycle, which are decided on its registers, run the same with capture enabled under
them: with capture disabled they are a TICK at most. -/
theorem foldl_cycleEvents_enableCapture {s u : State} (hcap : u.capEn = s.capEn) :
    (cycleEvents s).foldl applyStep (enableCapture u) =
      enableCapture ((cycleEvents s).foldl applyStep u) := by
  cases hs : s.capEn with
  | true =>
    have hkept : ((cycleEvents s).foldl applyStep u).capEn = u.capEn :=
      foldl_cycleEvents_frame State.capEn (by simp) (by simp) (by simp) (by simp) s u
    rw [enableCapture_of_capEn (hcap.trans hs), enableCapture_of_capEn (hkept.trans (hcap.trans hs))]
  | false =>
    obtain ⟨_, hbtn, hrot⟩ := capture_of_disabled hs
    rw [foldl_cycleEvents, foldl_cycleEvents, hbtn, hrot]
    simp only [stepIf_false]
    cases tickDue s with
    | false => rfl
    | true =>
      rw [stepIf_true, stepIf_true, applyStep_tick, applyStep_tick, enableCapture_run,
        tickDecision_enableCapture]
      exact (apply_ite enableCapture _ _ _).symm

/-- INIT_INPUTS enables no edge of its own cycle: the cycle is the one without it, but for `CAP_EN`. -/
theorem quiet_cycle_of_initInputs {p : Ports} {arg : Word} (hrst : p.rst = false)
    (hvalid : p.cmdValid = true) (hcmd : decodeCommand p.cmdWord = .initInputs arg) (s : State) :
    quiet (cycle p s) = quiet (enableCapture (cycle { p with cmdValid := false } s)) := by
  have hidle : idlePorts { p with cmdValid := false } = true := by simp [idlePorts, hrst]
  calc quiet (cycle p s)
      = quiet ((cycleEvents s).foldl applyStep (applyStep (advanceHidden p s) (.initInputs arg))) :=
        cycle_of_before_events quiet (fun _ _ => rfl) hrst hvalid hcmd rfl s
    _ = quiet ((cycleEvents s).foldl applyStep (enableCapture (advanceHidden p s))) :=
        quiet_foldl_congr (quiet_applyStep_initInputs arg _) _
    _ = quiet (enableCapture ((cycleEvents s).foldl applyStep (advanceHidden p s))) := by
        rw [foldl_cycleEvents_enableCapture (advanceHidden_capEn p s)]
    _ = quiet (enableCapture (cycle { p with cmdValid := false } s)) := by
        rw [cycle_of_idle hidle]; rfl

/-! ### The order of a command and the events of its cycle (R237) -/

/-- Settles O56: reset alone, the response, the commands before the events, INIT_INPUTS, and the commands
on top of the cycle's own result. -/
theorem commandOrderWithinCycle : Obligations.CommandOrderWithinCycle := by
  unfold Obligations.CommandOrderWithinCycle
  refine ⟨fun p s hrst => by rw [cycle_of_rst hrst, exec_rst], fun p s i hrst hvalid hcmd => ?_⟩
  have hcommand : isCommand i = true := hcmd ▸ isCommand_decodeCommand p.cmdWord
  have hexec (t : State) : exec i t = .next (applyStep t i) :=
    exec_next_of_enabled (enabled_of_isCommand hcommand t)
  obtain ⟨hdata, herr⟩ := cycle_response_of_command hrst hvalid hcmd s
  refine ⟨⟨applyStep s i, hexec s, hdata, herr, fun hread => ?_⟩, ?_, fun hafter => ?_⟩
  · have hi : isReadOrDrain i = true := by
      obtain ⟨a, rfl | rfl | rfl | rfl | rfl | rfl⟩ := hread <;> rfl
    exact quiet_cycle_of_isReadOrDrain hrst hvalid hcmd hi s
  · rintro ⟨a, rfl⟩
    exact quiet_cycle_of_initInputs hrst hvalid hcmd s
  · have hi : afterEvents i = true := by
      obtain ⟨a, rfl | rfl | rfl | rfl⟩ | ⟨g, d, rfl⟩ := hafter <;> rfl
    exact ⟨_, hexec _, quiet_cycle_of_afterEvents hrst hvalid hcmd hi s⟩

end Sys2Proof.Machine
end

section
/-! Restarting into an asserted end stop (R266): the pulses of a run, counted over runs of asserted ticks,
and the stop that ends them. -/

namespace Sys2Proof.Machine

/-! ### The pulses of a run -/

/-- The pulses of a run whose first step is taken are that step's and those of the rest. -/
theorem pulseCount_cons {i : Instr} {s t : State} (h : exec i s = .next t) (is : List Instr) :
    pulseCount (i :: is) s = (if t.out.pulse = true then 1 else 0) + pulseCount is t := by
  simp only [pulseCount, h]

/-- The pulses of a run in two parts. -/
theorem pulseCount_append (as bs : List Instr) {s t : State} (h : runSteps as s = .next t) :
    pulseCount (as ++ bs) s = pulseCount as s + pulseCount bs t := by
  induction as generalizing s with
  | nil =>
    obtain rfl : s = t := Host.Outcome.next.inj h
    simp [pulseCount]
  | cons i as ih =>
    cases hexec : exec i s with
    | next u =>
      have hrest : runSteps as u = .next t := by simpa only [runSteps, hexec] using h
      rw [List.cons_append, pulseCount_cons hexec, pulseCount_cons hexec, ih hrest, Nat.add_assoc]
    | fault r => simp [runSteps, hexec] at h
    | refused r => simp [runSteps, hexec] at h

/-- The pulses of a run followed by one more step. -/
theorem pulseCount_snoc {is : List Instr} {i : Instr} {s t u : State} (hrun : runSteps is s = .next t)
    (hstep : exec i t = .next u) :
    pulseCount (is ++ [i]) s = pulseCount is s + if u.out.pulse = true then 1 else 0 := by
  rw [pulseCount_append is [i] hrun, pulseCount_cons hstep]
  rfl

/-! ### The pulses of asserted ticks and the stop after them (R142, R144) -/

/-- From a count of 0, each of `n < T` asserted ticks pulses. -/
theorem pulseCount_assertedTicks {s : State} (hrun : s.run = true) (hzero : s.debCnt = 0) (n : Nat)
    (hn : n < s.cfg.threshold) : pulseCount (List.replicate n (.tick true false)) s = n := by
  induction n with
  | zero => rfl
  | succ n ih =>
    obtain ⟨t, ht, hticks⟩ := runSteps_assertedTicks hrun hzero n (by omega)
    obtain ⟨hpulse, _⟩ := (hticks.succ hn).last n.succ_pos
    rw [List.replicate_succ', pulseCount_snoc ht (exec_tick_of_running hticks.run true false),
      ih (by omega), if_pos hpulse]

/-- An ENDSTOP stop in direction `d`, as its TICK leaves it: no pulse, `d` latched, the count 0
(R142 step 2). -/
structure EndstopStopped (d : Dir) (u : State) : Prop where
  run : u.run = false
  reason : u.stopReason = .endstop
  latch : u.stopDir = d
  count : u.debCnt = 0
  pulse : u.out.pulse = false

/-- For `T >= 2` the tick before the threshold tick cleared the latch, so the threshold tick stops and
latches the desired direction, whatever the direction and `BACKAWAY` are (R146). -/
theorem AssertedTicks.endstopStopped {s t : State} {n : Nat} (h : AssertedTicks s t n)
    (hn : n + 1 = s.cfg.threshold) (htwo : 2 ≤ s.cfg.threshold) :
    EndstopStopped s.desiredDir (tickDecision true false t) := by
  have hdue : Machine.endstopDue true t = true := h.endstopDue hn (.inr htwo)
  obtain ⟨hat, _⟩ := (endstopDue_iff true t).mp hdue
  obtain ⟨_, hlatch⟩ := h.last (by omega)
  have hlatched : latchedDir t = s.desiredDir := by rw [latchedDir, if_pos hlatch, h.direction]
  exact {
    run := by simp [tickDecision_run, hdue]
    reason := by simp [tickDecision_stopReason, hdue]
    latch := by rw [tickDecision_stopDir, debounced_of_threshold hat, writeDebounce_stopDir, hlatched]
    count := tickDecision_debCnt_of_threshold hat false
    pulse := by simp [tickDecision_out, hdue] }

/-- From a count of 0 and for `T >= 2`, `T` asserted ticks pulse `T - 1` times and end in an ENDSTOP stop. -/
theorem assertedTicks_until_endstop {s : State} (hrun : s.run = true) (hzero : s.debCnt = 0)
    (htwo : 2 ≤ s.cfg.threshold) :
    pulseCount (List.replicate s.cfg.threshold (.tick true false)) s = s.cfg.threshold - 1 ∧
    ∃ u, runSteps (List.replicate s.cfg.threshold (.tick true false)) s = .next u ∧
      EndstopStopped s.desiredDir u := by
  obtain ⟨n, hn⟩ := Nat.exists_eq_add_of_le' s.cfg.bounds.threshold.1
  obtain ⟨t, ht, hticks⟩ := runSteps_assertedTicks hrun hzero n (by omega)
  have hstep := exec_tick_of_running hticks.run true false
  have hstopped := hticks.endstopStopped hn.symm htwo
  rw [hn, List.replicate_succ']
  refine ⟨?_, _, runSteps_snoc ht hstep, hstopped⟩
  rw [pulseCount_snoc ht hstep, pulseCount_assertedTicks hrun hzero n (by omega), hstopped.pulse]
  rfl

/-! ### The two ends of R266 -/

/-- Only step 2 of R142 leaves a timer stopped with the reason ENDSTOP, and it leaves the count at 0. -/
theorem tickDecision_debCnt_of_endstop {e f : Bool} {s : State} (hrun : s.run = true)
    (hstop : (tickDecision e f s).run = false) (hreason : (tickDecision e f s).stopReason = .endstop) :
    (tickDecision e f s).debCnt = 0 := by
  cases hdue : endstopDue e s with
  | true =>
    obtain ⟨hat, _⟩ := (endstopDue_iff e s).mp hdue
    exact tickDecision_debCnt_of_threshold hat f
  | false =>
    cases f with
    | true => simp [tickDecision_stopReason, hdue] at hreason
    | false => simp [tickDecision_run, hrun, hdue] at hstop

/-- A RECONFIGURE leaves the count where the stop left it (R240), and emits no pulse itself (R111). -/
theorem exec_reconfigure_frame {rate : Word} {s t : State} (h : exec (.reconfigure rate) s = .next t) :
    t.debCnt = s.debCnt ∧ t.desiredDir = s.desiredDir ∧ t.cfg = s.cfg ∧ t.out.pulse = false := by
  obtain rfl : reconfigureTo (rateOf rate) s = t := Host.Outcome.next.inj h
  refine ⟨by simp, by simp, by simp, ?_⟩
  rcases reconfigureTo_cases (rateOf rate) s with ⟨_, ht⟩ | ⟨_, _, ht⟩ | ⟨_, _, ht⟩ | ⟨_, _, _, _, ht⟩
  all_goals rw [ht]; rfl

/-- Settles O37: an ENDSTOP stop is taken at a threshold tick; a restart keeps the count of 0 and pulses
not itself, and the asserted ticks after it run as from any count of 0. -/
theorem restartIntoAssertedEndstop : Obligations.RestartIntoAssertedEndstop := by
  unfold Obligations.RestartIntoAssertedEndstop
  refine ⟨fun s t e f h hstop hreason => ?_, ?_⟩
  · have hrunning : s.run = true := enabled_of_exec_next h
    obtain rfl : tickDecision e f s = t :=
      Host.Outcome.next.inj ((exec_tick_of_running hrunning e f).symm.trans h)
    exact tickDecision_debCnt_of_endstop hrunning hstop hreason
  · intro s t rate hzero htwo h hrun run
    obtain ⟨hcount, hdir, hcfg, hpulse⟩ := exec_reconfigure_frame h
    have hpulses (n : Nat) :
        pulseCount (run n) s = pulseCount (List.replicate n (.tick true false)) t := by
      simp [run, pulseCount_cons h, hpulse]
    have hsteps (n : Nat) : runSteps (run n) s = runSteps (List.replicate n (.tick true false)) t := by
      simp only [run, runSteps, h]
    simp only [hpulses, hsteps, ← hcfg, ← hdir] at htwo ⊢
    have hzero' : t.debCnt = 0 := hcount.trans hzero
    obtain ⟨htotal, u, hu, hstopped⟩ := assertedTicks_until_endstop hrun hzero' htwo
    refine ⟨fun n hn => ⟨pulseCount_assertedTicks hrun hzero' n hn, ?_⟩, htotal, u, hu,
      hstopped.run, hstopped.reason, hstopped.latch, hstopped.count⟩
    obtain ⟨v, hv, hticks⟩ := runSteps_assertedTicks hrun hzero' n hn
    exact ⟨v, hv, hticks.run⟩

end Sys2Proof.Machine
end
